-- ==== Sys2Proof/Word.lean ====
section
/-! DEFINITION. The two widths of the hardware (R6, R7): everything else is a bit or a small enumeration. -/

namespace Sys2Proof

/-- The unit of memory, registers, operands and ports. -/
abbrev Byte := BitVec 8

/-- Addresses, `sp`, `pc` and the register pairs. BitVec arithmetic at this width is the `mod 2^16` of R45 and R94. -/
abbrev Word := BitVec 16

end Sys2Proof
end

