-- ==== Sys2Proof/Config.lean ====
section
/-! DEFINITION. What the spec leaves open and one machine fixes: the free value of `IN` from an unlisted port, and the byte
an address reads as before anything has written it. -/

namespace Sys2Proof

/-- `InUnmapped` (R236, D9): the byte an `IN` from a port other than 1, 2 and 3 returns. A draw, "any value 0 to 255, possibly
different at each read": it has no body, and it is applied to the number of such reads before this one and to the port.
FREE VALUE, log entry 4. -/
opaque Config.inUnmapped (draw : Nat) (port : Byte) : Byte

/-- What an address that no entry of memory names reads as. DESIGN CHOICE, log entry 3: the spec calls memory outside the
loaded image an arbitrary launch value (R28, R281). -/
def Config.unlistedByte : Byte := 0

end Sys2Proof
end

