-- ==== Sys2Proof/Syntax.lean ====
section
/-! DEFINITION. The instructions of the 8080 as syntax, and the names their opcode fields stand for. -/

namespace Sys2Proof

/-- The seven general registers (R10). -/
inductive Reg
  | b | c | d | e | h | l | a
  deriving DecidableEq, Repr

/-- What a 3-bit register code names (R64): a register, or `M`, the memory byte at the address in `HL`. -/
inductive Operand
  | reg (r : Reg)
  | m
  deriving DecidableEq, Repr

/-- The 16-bit operand a pair code names in `LXI INX DCX DAD` (R65). -/
inductive Pair
  | b | d | h | sp
  deriving DecidableEq, Repr

/-- The pair a pair code names in `PUSH POP` (R65). -/
inductive StackPair
  | b | d | h | psw
  deriving DecidableEq, Repr

/-- The pair that `LDAX` and `STAX` take their address from (R110, R111). -/
inductive BasePair
  | b | d
  deriving DecidableEq, Repr

/-- The eight condition codes (R66). -/
inductive Cond
  | nz | z | nc | c | po | pe | p | m
  deriving DecidableEq, Repr

/-- The eight operations that the 3-bit arithmetic selector names (R67). -/
inductive AluOp
  | add | adc | sub | sbb | ana | xra | ora | cmp
  deriving DecidableEq, Repr

/-- The instructions: one constructor for each of the 256 rows of the opcode table (R68), with the operand bytes of
the row's format (R61): the rows with operands first, then the others, each in the table's order. A row the table calls an alias (R69) has its own constructor, named after the core
instruction and the alias byte, so that every opcode byte is exactly one constructor. -/
inductive Instr
  /-- `0x01` `LXI B,d16` (R105) -/
  | lxiB (d16 : Word)
  /-- `0x06` `MVI B,d8` (R103) -/
  | mviB (d8 : Byte)
  /-- `0x0E` `MVI C,d8` (R103) -/
  | mviC (d8 : Byte)
  /-- `0x11` `LXI D,d16` (R105) -/
  | lxiD (d16 : Word)
  /-- `0x16` `MVI D,d8` (R103) -/
  | mviD (d8 : Byte)
  /-- `0x1E` `MVI E,d8` (R103) -/
  | mviE (d8 : Byte)
  /-- `0x21` `LXI H,d16` (R105) -/
  | lxiH (d16 : Word)
  /-- `0x22` `SHLD a16` (R109) -/
  | shld (a16 : Word)
  /-- `0x26` `MVI H,d8` (R103) -/
  | mviH (d8 : Byte)
  /-- `0x2A` `LHLD a16` (R108) -/
  | lhld (a16 : Word)
  /-- `0x2E` `MVI L,d8` (R103) -/
  | mviL (d8 : Byte)
  /-- `0x31` `LXI SP,d16` (R105) -/
  | lxiSp (d16 : Word)
  /-- `0x32` `STA a16` (R107) -/
  | sta (a16 : Word)
  /-- `0x36` `MVI M,d8` (R104) -/
  | mviM (d8 : Byte)
  /-- `0x3A` `LDA a16` (R106) -/
  | lda (a16 : Word)
  /-- `0x3E` `MVI A,d8` (R103) -/
  | mviA (d8 : Byte)
  /-- `0xC2` `JNZ a16` (R181) -/
  | jnz (a16 : Word)
  /-- `0xC3` `JMP a16` (R180) -/
  | jmp (a16 : Word)
  /-- `0xC4` `CNZ a16` (R183) -/
  | cnz (a16 : Word)
  /-- `0xC6` `ADI d8` (R124) -/
  | adi (d8 : Byte)
  /-- `0xCA` `JZ a16` (R181) -/
  | jz (a16 : Word)
  /-- `0xCB` alias `JMP a16` (R188) -/
  | jmpCB (a16 : Word)
  /-- `0xCC` `CZ a16` (R183) -/
  | cz (a16 : Word)
  /-- `0xCD` `CALL a16` (R182) -/
  | call (a16 : Word)
  /-- `0xCE` `ACI d8` (R127) -/
  | aci (d8 : Byte)
  /-- `0xD2` `JNC a16` (R181) -/
  | jnc (a16 : Word)
  /-- `0xD3` `OUT d8` (R207) -/
  | outPort (port : Byte)
  /-- `0xD4` `CNC a16` (R183) -/
  | cnc (a16 : Word)
  /-- `0xD6` `SUI d8` (R130) -/
  | sui (d8 : Byte)
  /-- `0xDA` `JC a16` (R181) -/
  | jc (a16 : Word)
  /-- `0xDB` `IN d8` (R206) -/
  | inPort (port : Byte)
  /-- `0xDC` `CC a16` (R183) -/
  | cc (a16 : Word)
  /-- `0xDD` alias `CALL a16` (R190) -/
  | callDD (a16 : Word)
  /-- `0xDE` `SBI d8` (R133) -/
  | sbi (d8 : Byte)
  /-- `0xE2` `JPO a16` (R181) -/
  | jpo (a16 : Word)
  /-- `0xE4` `CPO a16` (R183) -/
  | cpo (a16 : Word)
  /-- `0xE6` `ANI d8` (R153) -/
  | ani (d8 : Byte)
  /-- `0xEA` `JPE a16` (R181) -/
  | jpe (a16 : Word)
  /-- `0xEC` `CPE a16` (R183) -/
  | cpe (a16 : Word)
  /-- `0xED` alias `CALL a16` (R190) -/
  | callED (a16 : Word)
  /-- `0xEE` `XRI d8` (R156) -/
  | xri (d8 : Byte)
  /-- `0xF2` `JP a16` (R181) -/
  | jp (a16 : Word)
  /-- `0xF4` `CP a16` (R183) -/
  | cp (a16 : Word)
  /-- `0xF6` `ORI d8` (R159) -/
  | ori (d8 : Byte)
  /-- `0xFA` `JM a16` (R181) -/
  | jm (a16 : Word)
  /-- `0xFC` `CM a16` (R183) -/
  | cm (a16 : Word)
  /-- `0xFD` alias `CALL a16` (R190) -/
  | callFD (a16 : Word)
  /-- `0xFE` `CPI d8` (R162) -/
  | cpi (d8 : Byte)
  /-- `0x00` `NOP` (R211) -/
  | nop
  /-- `0x02` `STAX B` (R111) -/
  | staxB
  /-- `0x03` `INX B` (R138) -/
  | inxB
  /-- `0x04` `INR B` (R134) -/
  | inrB
  /-- `0x05` `DCR B` (R136) -/
  | dcrB
  /-- `0x07` `RLC` (R163) -/
  | rlc
  /-- `0x08` alias `NOP` (R212) -/
  | nop08
  /-- `0x09` `DAD B` (R140) -/
  | dadB
  /-- `0x0A` `LDAX B` (R110) -/
  | ldaxB
  /-- `0x0B` `DCX B` (R139) -/
  | dcxB
  /-- `0x0C` `INR C` (R134) -/
  | inrC
  /-- `0x0D` `DCR C` (R136) -/
  | dcrC
  /-- `0x0F` `RRC` (R164) -/
  | rrc
  /-- `0x10` alias `NOP` (R212) -/
  | nop10
  /-- `0x12` `STAX D` (R111) -/
  | staxD
  /-- `0x13` `INX D` (R138) -/
  | inxD
  /-- `0x14` `INR D` (R134) -/
  | inrD
  /-- `0x15` `DCR D` (R136) -/
  | dcrD
  /-- `0x17` `RAL` (R165) -/
  | ral
  /-- `0x18` alias `NOP` (R212) -/
  | nop18
  /-- `0x19` `DAD D` (R140) -/
  | dadD
  /-- `0x1A` `LDAX D` (R110) -/
  | ldaxD
  /-- `0x1B` `DCX D` (R139) -/
  | dcxD
  /-- `0x1C` `INR E` (R134) -/
  | inrE
  /-- `0x1D` `DCR E` (R136) -/
  | dcrE
  /-- `0x1F` `RAR` (R166) -/
  | rar
  /-- `0x20` alias `NOP` (R212) -/
  | nop20
  /-- `0x23` `INX H` (R138) -/
  | inxH
  /-- `0x24` `INR H` (R134) -/
  | inrH
  /-- `0x25` `DCR H` (R136) -/
  | dcrH
  /-- `0x27` `DAA` (R141) -/
  | daa
  /-- `0x28` alias `NOP` (R212) -/
  | nop28
  /-- `0x29` `DAD H` (R140) -/
  | dadH
  /-- `0x2B` `DCX H` (R139) -/
  | dcxH
  /-- `0x2C` `INR L` (R134) -/
  | inrL
  /-- `0x2D` `DCR L` (R136) -/
  | dcrL
  /-- `0x2F` `CMA` (R167) -/
  | cma
  /-- `0x30` alias `NOP` (R212) -/
  | nop30
  /-- `0x33` `INX SP` (R138) -/
  | inxSp
  /-- `0x34` `INR M` (R135) -/
  | inrM
  /-- `0x35` `DCR M` (R137) -/
  | dcrM
  /-- `0x37` `STC` (R169) -/
  | stc
  /-- `0x38` alias `NOP` (R212) -/
  | nop38
  /-- `0x39` `DAD SP` (R140) -/
  | dadSp
  /-- `0x3B` `DCX SP` (R139) -/
  | dcxSp
  /-- `0x3C` `INR A` (R134) -/
  | inrA
  /-- `0x3D` `DCR A` (R136) -/
  | dcrA
  /-- `0x3F` `CMC` (R168) -/
  | cmc
  /-- `0x40` `MOV B,B` (R100) -/
  | movBB
  /-- `0x41` `MOV B,C` (R100) -/
  | movBC
  /-- `0x42` `MOV B,D` (R100) -/
  | movBD
  /-- `0x43` `MOV B,E` (R100) -/
  | movBE
  /-- `0x44` `MOV B,H` (R100) -/
  | movBH
  /-- `0x45` `MOV B,L` (R100) -/
  | movBL
  /-- `0x46` `MOV B,M` (R101) -/
  | movBM
  /-- `0x47` `MOV B,A` (R100) -/
  | movBA
  /-- `0x48` `MOV C,B` (R100) -/
  | movCB
  /-- `0x49` `MOV C,C` (R100) -/
  | movCC
  /-- `0x4A` `MOV C,D` (R100) -/
  | movCD
  /-- `0x4B` `MOV C,E` (R100) -/
  | movCE
  /-- `0x4C` `MOV C,H` (R100) -/
  | movCH
  /-- `0x4D` `MOV C,L` (R100) -/
  | movCL
  /-- `0x4E` `MOV C,M` (R101) -/
  | movCM
  /-- `0x4F` `MOV C,A` (R100) -/
  | movCA
  /-- `0x50` `MOV D,B` (R100) -/
  | movDB
  /-- `0x51` `MOV D,C` (R100) -/
  | movDC
  /-- `0x52` `MOV D,D` (R100) -/
  | movDD
  /-- `0x53` `MOV D,E` (R100) -/
  | movDE
  /-- `0x54` `MOV D,H` (R100) -/
  | movDH
  /-- `0x55` `MOV D,L` (R100) -/
  | movDL
  /-- `0x56` `MOV D,M` (R101) -/
  | movDM
  /-- `0x57` `MOV D,A` (R100) -/
  | movDA
  /-- `0x58` `MOV E,B` (R100) -/
  | movEB
  /-- `0x59` `MOV E,C` (R100) -/
  | movEC
  /-- `0x5A` `MOV E,D` (R100) -/
  | movED
  /-- `0x5B` `MOV E,E` (R100) -/
  | movEE
  /-- `0x5C` `MOV E,H` (R100) -/
  | movEH
  /-- `0x5D` `MOV E,L` (R100) -/
  | movEL
  /-- `0x5E` `MOV E,M` (R101) -/
  | movEM
  /-- `0x5F` `MOV E,A` (R100) -/
  | movEA
  /-- `0x60` `MOV H,B` (R100) -/
  | movHB
  /-- `0x61` `MOV H,C` (R100) -/
  | movHC
  /-- `0x62` `MOV H,D` (R100) -/
  | movHD
  /-- `0x63` `MOV H,E` (R100) -/
  | movHE
  /-- `0x64` `MOV H,H` (R100) -/
  | movHH
  /-- `0x65` `MOV H,L` (R100) -/
  | movHL
  /-- `0x66` `MOV H,M` (R101) -/
  | movHM
  /-- `0x67` `MOV H,A` (R100) -/
  | movHA
  /-- `0x68` `MOV L,B` (R100) -/
  | movLB
  /-- `0x69` `MOV L,C` (R100) -/
  | movLC
  /-- `0x6A` `MOV L,D` (R100) -/
  | movLD
  /-- `0x6B` `MOV L,E` (R100) -/
  | movLE
  /-- `0x6C` `MOV L,H` (R100) -/
  | movLH
  /-- `0x6D` `MOV L,L` (R100) -/
  | movLL
  /-- `0x6E` `MOV L,M` (R101) -/
  | movLM
  /-- `0x6F` `MOV L,A` (R100) -/
  | movLA
  /-- `0x70` `MOV M,B` (R102) -/
  | movMB
  /-- `0x71` `MOV M,C` (R102) -/
  | movMC
  /-- `0x72` `MOV M,D` (R102) -/
  | movMD
  /-- `0x73` `MOV M,E` (R102) -/
  | movME
  /-- `0x74` `MOV M,H` (R102) -/
  | movMH
  /-- `0x75` `MOV M,L` (R102) -/
  | movML
  /-- `0x76` `HLT` (R210) -/
  | hlt
  /-- `0x77` `MOV M,A` (R102) -/
  | movMA
  /-- `0x78` `MOV A,B` (R100) -/
  | movAB
  /-- `0x79` `MOV A,C` (R100) -/
  | movAC
  /-- `0x7A` `MOV A,D` (R100) -/
  | movAD
  /-- `0x7B` `MOV A,E` (R100) -/
  | movAE
  /-- `0x7C` `MOV A,H` (R100) -/
  | movAH
  /-- `0x7D` `MOV A,L` (R100) -/
  | movAL
  /-- `0x7E` `MOV A,M` (R101) -/
  | movAM
  /-- `0x7F` `MOV A,A` (R100) -/
  | movAA
  /-- `0x80` `ADD B` (R122) -/
  | addB
  /-- `0x81` `ADD C` (R122) -/
  | addC
  /-- `0x82` `ADD D` (R122) -/
  | addD
  /-- `0x83` `ADD E` (R122) -/
  | addE
  /-- `0x84` `ADD H` (R122) -/
  | addH
  /-- `0x85` `ADD L` (R122) -/
  | addL
  /-- `0x86` `ADD M` (R123) -/
  | addM
  /-- `0x87` `ADD A` (R122) -/
  | addA
  /-- `0x88` `ADC B` (R125) -/
  | adcB
  /-- `0x89` `ADC C` (R125) -/
  | adcC
  /-- `0x8A` `ADC D` (R125) -/
  | adcD
  /-- `0x8B` `ADC E` (R125) -/
  | adcE
  /-- `0x8C` `ADC H` (R125) -/
  | adcH
  /-- `0x8D` `ADC L` (R125) -/
  | adcL
  /-- `0x8E` `ADC M` (R126) -/
  | adcM
  /-- `0x8F` `ADC A` (R125) -/
  | adcA
  /-- `0x90` `SUB B` (R128) -/
  | subB
  /-- `0x91` `SUB C` (R128) -/
  | subC
  /-- `0x92` `SUB D` (R128) -/
  | subD
  /-- `0x93` `SUB E` (R128) -/
  | subE
  /-- `0x94` `SUB H` (R128) -/
  | subH
  /-- `0x95` `SUB L` (R128) -/
  | subL
  /-- `0x96` `SUB M` (R129) -/
  | subM
  /-- `0x97` `SUB A` (R128) -/
  | subA
  /-- `0x98` `SBB B` (R131) -/
  | sbbB
  /-- `0x99` `SBB C` (R131) -/
  | sbbC
  /-- `0x9A` `SBB D` (R131) -/
  | sbbD
  /-- `0x9B` `SBB E` (R131) -/
  | sbbE
  /-- `0x9C` `SBB H` (R131) -/
  | sbbH
  /-- `0x9D` `SBB L` (R131) -/
  | sbbL
  /-- `0x9E` `SBB M` (R132) -/
  | sbbM
  /-- `0x9F` `SBB A` (R131) -/
  | sbbA
  /-- `0xA0` `ANA B` (R151) -/
  | anaB
  /-- `0xA1` `ANA C` (R151) -/
  | anaC
  /-- `0xA2` `ANA D` (R151) -/
  | anaD
  /-- `0xA3` `ANA E` (R151) -/
  | anaE
  /-- `0xA4` `ANA H` (R151) -/
  | anaH
  /-- `0xA5` `ANA L` (R151) -/
  | anaL
  /-- `0xA6` `ANA M` (R152) -/
  | anaM
  /-- `0xA7` `ANA A` (R151) -/
  | anaA
  /-- `0xA8` `XRA B` (R154) -/
  | xraB
  /-- `0xA9` `XRA C` (R154) -/
  | xraC
  /-- `0xAA` `XRA D` (R154) -/
  | xraD
  /-- `0xAB` `XRA E` (R154) -/
  | xraE
  /-- `0xAC` `XRA H` (R154) -/
  | xraH
  /-- `0xAD` `XRA L` (R154) -/
  | xraL
  /-- `0xAE` `XRA M` (R155) -/
  | xraM
  /-- `0xAF` `XRA A` (R154) -/
  | xraA
  /-- `0xB0` `ORA B` (R157) -/
  | oraB
  /-- `0xB1` `ORA C` (R157) -/
  | oraC
  /-- `0xB2` `ORA D` (R157) -/
  | oraD
  /-- `0xB3` `ORA E` (R157) -/
  | oraE
  /-- `0xB4` `ORA H` (R157) -/
  | oraH
  /-- `0xB5` `ORA L` (R157) -/
  | oraL
  /-- `0xB6` `ORA M` (R158) -/
  | oraM
  /-- `0xB7` `ORA A` (R157) -/
  | oraA
  /-- `0xB8` `CMP B` (R160) -/
  | cmpB
  /-- `0xB9` `CMP C` (R160) -/
  | cmpC
  /-- `0xBA` `CMP D` (R160) -/
  | cmpD
  /-- `0xBB` `CMP E` (R160) -/
  | cmpE
  /-- `0xBC` `CMP H` (R160) -/
  | cmpH
  /-- `0xBD` `CMP L` (R160) -/
  | cmpL
  /-- `0xBE` `CMP M` (R161) -/
  | cmpM
  /-- `0xBF` `CMP A` (R160) -/
  | cmpA
  /-- `0xC0` `RNZ` (R185) -/
  | rnz
  /-- `0xC1` `POP B` (R202) -/
  | popB
  /-- `0xC5` `PUSH B` (R200) -/
  | pushB
  /-- `0xC7` `RST 0` (R186) -/
  | rst0
  /-- `0xC8` `RZ` (R185) -/
  | rz
  /-- `0xC9` `RET` (R184) -/
  | ret
  /-- `0xCF` `RST 1` (R186) -/
  | rst1
  /-- `0xD0` `RNC` (R185) -/
  | rnc
  /-- `0xD1` `POP D` (R202) -/
  | popD
  /-- `0xD5` `PUSH D` (R200) -/
  | pushD
  /-- `0xD7` `RST 2` (R186) -/
  | rst2
  /-- `0xD8` `RC` (R185) -/
  | rc
  /-- `0xD9` alias `RET` (R189) -/
  | retD9
  /-- `0xDF` `RST 3` (R186) -/
  | rst3
  /-- `0xE0` `RPO` (R185) -/
  | rpo
  /-- `0xE1` `POP H` (R202) -/
  | popH
  /-- `0xE3` `XTHL` (R204) -/
  | xthl
  /-- `0xE5` `PUSH H` (R200) -/
  | pushH
  /-- `0xE7` `RST 4` (R186) -/
  | rst4
  /-- `0xE8` `RPE` (R185) -/
  | rpe
  /-- `0xE9` `PCHL` (R187) -/
  | pchl
  /-- `0xEB` `XCHG` (R112) -/
  | xchg
  /-- `0xEF` `RST 5` (R186) -/
  | rst5
  /-- `0xF0` `RP` (R185) -/
  | rp
  /-- `0xF1` `POP PSW` (R203) -/
  | popPsw
  /-- `0xF3` `DI` (R209) -/
  | di
  /-- `0xF5` `PUSH PSW` (R201) -/
  | pushPsw
  /-- `0xF7` `RST 6` (R186) -/
  | rst6
  /-- `0xF8` `RM` (R185) -/
  | rm
  /-- `0xF9` `SPHL` (R205) -/
  | sphl
  /-- `0xFB` `EI` (R208) -/
  | ei
  /-- `0xFF` `RST 7` (R186) -/
  | rst7
  deriving DecidableEq, Repr

end Sys2Proof
end

