-- ==== Sys2Proof/Machine/State.lean ====
section
/-! DEFINITION. The state of the machine as plain data (R26), what the host may do to it between two steps (R286), the reasons
a step could stop, and the state right after reset. -/

namespace Sys2Proof.Machine

/-- The seven general registers, 8 bits each (R10). The pairs BC, DE and HL are views of them (R12). -/
structure Regs where
  a : Byte
  b : Byte
  c : Byte
  d : Byte
  e : Byte
  h : Byte
  l : Byte
  deriving DecidableEq, Repr

/-- The five flags (R16): zero, sign, parity, carry, auxiliary carry. -/
structure Flags where
  z  : Bool
  s  : Bool
  p  : Bool
  cy : Bool
  ac : Bool
  deriving DecidableEq, Repr

/-- The two values of `interrupt_number` (R21). -/
inductive InterruptNumber
  | one
  | two
  deriving DecidableEq, Repr

/-- The I/O port bridge (R22 to R24): two input latches, two output latches with their shadows, and the shift register with its
3-bit read offset. -/
structure Bridge where
  port1        : Byte
  port2        : Byte
  outPort3     : Byte
  outPort3Prev : Byte
  outPort5     : Byte
  outPort5Prev : Byte
  shift0       : Byte
  shift1       : Byte
  shiftOffset  : BitVec 3
  deriving DecidableEq, Repr

/-- Memory: the bytes of the 65,536-byte array (R25, R40) that differ from what an unlisted address reads as, by rising
address. -/
abbrev Memory := List Host.Cell

/-- The values a reset leaves arbitrary (R28, R281), taken "as an input of the run": the registers, the flags, `sp`, the output
latches and shadows, the shift register, the memory outside the image as bytes at addresses, and the image the loader places
from address 0 on. -/
structure Launch where
  regs         : Regs
  flags        : Flags
  sp           : Word
  outPort3     : Byte
  outPort3Prev : Byte
  outPort5     : Byte
  outPort5Prev : Byte
  shift0       : Byte
  shift1       : Byte
  shiftOffset  : BitVec 3
  mem          : List (Word × Byte)
  image        : List Byte
  deriving DecidableEq, Repr

/-- What the host may do at a boundary between two steps and that has an effect (R286): one step, an interrupt request, a byte
into an input latch, a reset. -/
inductive HostAction
  | step
  | interrupt
  | writePort1 (v : Byte)
  | writePort2 (v : Byte)
  | reset (l : Launch)
  deriving DecidableEq, Repr

/-- The state of the machine (R26), and two fields of the model's own at its end. -/
@[ext]
structure State where
  regs            : Regs
  sp              : Word
  pc              : Word
  flags           : Flags
  halted          : Bool
  intEnable       : Bool
  interruptNumber : InterruptNumber
  bridge          : Bridge
  mem             : Memory
  /-- The MODEL'S OWN: how many draws of `InUnmapped` have been made (log entry 4). -/
  draws           : Nat
  /-- The MODEL'S OWN: what the host does at the coming boundaries, oldest first; with none left the host only steps (log
  entry 5). -/
  schedule        : List HostAction
  deriving DecidableEq, Repr

/-- Why the machine faults: there is no reason, "no instruction can trap, fault or be refused by the hardware" (R250, R252). No
meaning raises one, by type. -/
inductive Fault
  deriving DecidableEq, Repr

/-- Why the model refuses an instruction. -/
inductive Refusal
  /-- Raised by `exec`'s arm for an instruction that has no meaning yet, and by nothing else: no arm of this model does. It is the
  guard R251 asks a narrowed model to have. Safe: the run ends and nothing is claimed of it. -/
  | notModelled (mnemonic : String)
  deriving DecidableEq, Repr

/-- The machine right after reset (R28, R280): `pc` at `0x0000`, not halted, interrupts disabled, the first vector next. Every
other field the spec leaves an arbitrary launch value; here it is zero (DESIGN CHOICE, log entries 1 to 5). -/
def State.reset : State where
  regs := { a := 0, b := 0, c := 0, d := 0, e := 0, h := 0, l := 0 }
  sp := 0
  pc := 0x0000
  flags := { z := false, s := false, p := false, cy := false, ac := false }
  halted := false
  intEnable := false
  interruptNumber := .one
  bridge :=
    { port1 := 0, port2 := 0, outPort3 := 0, outPort3Prev := 0, outPort5 := 0, outPort5Prev := 0
      shift0 := 0, shift1 := 0, shiftOffset := 0 }
  mem := []
  draws := 0
  schedule := []

end Sys2Proof.Machine
end

