-- ==== Sys2Proof/WellFormed.lean ====
section
/-! DEFINITION. Which terms stand for something: instructions, the host's actions, memories in canonical form. -/

namespace Sys2Proof

/-- Every instruction is well formed: its operands are bytes and words of the widths the formats give (R61), and "No operand
byte value is illegal either: every `d8`, `d16`, `a16` and port number is accepted" (R70). -/
def Instr.wf (_ : Instr) : Bool := true

namespace Machine

/-- The keys of a memory from `low` on: strictly rising, below the end of the address space (R40), and no entry equal to what
an unlisted address reads as. -/
def Memory.wfFrom : Nat → Memory → Bool
  | _, [] => true
  | low, (k, v) :: rest =>
    decide (low ≤ k) && decide (k < 65536) && decide (v ≠ Config.unlistedByte) && Memory.wfFrom (k + 1) rest

/-- A memory in canonical form: equal memories are equal lists. -/
def Memory.wf (m : Memory) : Bool := Memory.wfFrom 0 m

/-- Launch values are well formed when the image fits the memory it is placed in from address 0 on (R40, R28). -/
def Launch.wf (l : Launch) : Bool := decide (l.image.length ≤ 65536)

/-- Any byte may be written to a port latch (R240); a reset's launch values must be well formed. -/
def HostAction.wf : HostAction → Bool
  | .step => true
  | .interrupt => true
  | .writePort1 _ => true
  | .writePort2 _ => true
  | .reset l => l.wf

end Machine

end Sys2Proof
end

