-- ==== Sys2Proof/Decode.lean ====
section
/-! DEFINITION. From bytes to instructions and back. The decoder is written from the field patterns of R62 with the field
codes of R64 to R67; the encoder is written from the 256-entry map of R68. They are two readings of the spec, and the round
trip between them holds only if both are right. -/

namespace Sys2Proof

/-! ## Bytes of a word (R41, R63: the low byte comes first) -/

/-- `v[7:0]`. -/
def loByte (v : Word) : Byte := v.setWidth 8

/-- `v[15:8]`. -/
def hiByte (v : Word) : Byte := (v >>> 8).setWidth 8

/-- The word `{hi, lo}` (R7, R63). -/
def mkWord (hi lo : Byte) : Word := hi ++ lo

/-! ## The fields of the opcode byte (R62) -/

/-- `x = op[7:6]`, the quadrant. -/
def fieldX (op : Byte) : Nat := op.toNat / 64

/-- `y = op[5:3]`. -/
def fieldY (op : Byte) : Nat := op.toNat / 8 % 8

/-- `z = op[2:0]`. -/
def fieldZ (op : Byte) : Nat := op.toNat % 8

/-- `pp = op[5:4]`. -/
def fieldPP (op : Byte) : Nat := op.toNat / 16 % 4

/-- `q = op[3]`. -/
def fieldQ (op : Byte) : Nat := op.toNat / 8 % 2

/-- The 3-bit register code (R64). -/
def operandOf : Nat → Operand
  | 0 => .reg .b | 1 => .reg .c | 2 => .reg .d | 3 => .reg .e
  | 4 => .reg .h | 5 => .reg .l | 6 => .m | _ => .reg .a

/-- The 2-bit pair code in `LXI INX DCX DAD` (R65). -/
def pairOf : Nat → Pair
  | 0 => .b | 1 => .d | 2 => .h | _ => .sp

/-- The 2-bit pair code in `PUSH POP` (R65). -/
def stackPairOf : Nat → StackPair
  | 0 => .b | 1 => .d | 2 => .h | _ => .psw

/-- The 3-bit condition code (R66). -/
def condOf : Nat → Cond
  | 0 => .nz | 1 => .z | 2 => .nc | 3 => .c | 4 => .po | 5 => .pe | 6 => .p | _ => .m

/-- The 3-bit arithmetic selector (R67). -/
def aluOf : Nat → AluOp
  | 0 => .add | 1 => .adc | 2 => .sub | 3 => .sbb | 4 => .ana | 5 => .xra | 6 => .ora | _ => .cmp

/-! ## The instructions of one pattern, by their fields -/

/-- `01dddsss`. The slot `01110110`, which would be `MOV M,M`, is `HLT` (R71). -/
def movInstr : Operand → Operand → Instr
  | .reg .b, .reg .b => .movBB
  | .reg .b, .reg .c => .movBC
  | .reg .b, .reg .d => .movBD
  | .reg .b, .reg .e => .movBE
  | .reg .b, .reg .h => .movBH
  | .reg .b, .reg .l => .movBL
  | .reg .b, .m => .movBM
  | .reg .b, .reg .a => .movBA
  | .reg .c, .reg .b => .movCB
  | .reg .c, .reg .c => .movCC
  | .reg .c, .reg .d => .movCD
  | .reg .c, .reg .e => .movCE
  | .reg .c, .reg .h => .movCH
  | .reg .c, .reg .l => .movCL
  | .reg .c, .m => .movCM
  | .reg .c, .reg .a => .movCA
  | .reg .d, .reg .b => .movDB
  | .reg .d, .reg .c => .movDC
  | .reg .d, .reg .d => .movDD
  | .reg .d, .reg .e => .movDE
  | .reg .d, .reg .h => .movDH
  | .reg .d, .reg .l => .movDL
  | .reg .d, .m => .movDM
  | .reg .d, .reg .a => .movDA
  | .reg .e, .reg .b => .movEB
  | .reg .e, .reg .c => .movEC
  | .reg .e, .reg .d => .movED
  | .reg .e, .reg .e => .movEE
  | .reg .e, .reg .h => .movEH
  | .reg .e, .reg .l => .movEL
  | .reg .e, .m => .movEM
  | .reg .e, .reg .a => .movEA
  | .reg .h, .reg .b => .movHB
  | .reg .h, .reg .c => .movHC
  | .reg .h, .reg .d => .movHD
  | .reg .h, .reg .e => .movHE
  | .reg .h, .reg .h => .movHH
  | .reg .h, .reg .l => .movHL
  | .reg .h, .m => .movHM
  | .reg .h, .reg .a => .movHA
  | .reg .l, .reg .b => .movLB
  | .reg .l, .reg .c => .movLC
  | .reg .l, .reg .d => .movLD
  | .reg .l, .reg .e => .movLE
  | .reg .l, .reg .h => .movLH
  | .reg .l, .reg .l => .movLL
  | .reg .l, .m => .movLM
  | .reg .l, .reg .a => .movLA
  | .m, .reg .b => .movMB
  | .m, .reg .c => .movMC
  | .m, .reg .d => .movMD
  | .m, .reg .e => .movME
  | .m, .reg .h => .movMH
  | .m, .reg .l => .movML
  | .m, .m => .hlt
  | .m, .reg .a => .movMA
  | .reg .a, .reg .b => .movAB
  | .reg .a, .reg .c => .movAC
  | .reg .a, .reg .d => .movAD
  | .reg .a, .reg .e => .movAE
  | .reg .a, .reg .h => .movAH
  | .reg .a, .reg .l => .movAL
  | .reg .a, .m => .movAM
  | .reg .a, .reg .a => .movAA

/-- `00ddd110`, then `d8`. -/
def mviInstr : Operand → Byte → Instr
  | .reg .b, v => .mviB v
  | .reg .c, v => .mviC v
  | .reg .d, v => .mviD v
  | .reg .e, v => .mviE v
  | .reg .h, v => .mviH v
  | .reg .l, v => .mviL v
  | .m, v => .mviM v
  | .reg .a, v => .mviA v

/-- `00ddd100`. -/
def inrInstr : Operand → Instr
  | .reg .b => .inrB
  | .reg .c => .inrC
  | .reg .d => .inrD
  | .reg .e => .inrE
  | .reg .h => .inrH
  | .reg .l => .inrL
  | .m => .inrM
  | .reg .a => .inrA

/-- `00ddd101`. -/
def dcrInstr : Operand → Instr
  | .reg .b => .dcrB
  | .reg .c => .dcrC
  | .reg .d => .dcrD
  | .reg .e => .dcrE
  | .reg .h => .dcrH
  | .reg .l => .dcrL
  | .m => .dcrM
  | .reg .a => .dcrA

/-- `10aaasss`. -/
def aluInstr : AluOp → Operand → Instr
  | .add, .reg .b => .addB
  | .add, .reg .c => .addC
  | .add, .reg .d => .addD
  | .add, .reg .e => .addE
  | .add, .reg .h => .addH
  | .add, .reg .l => .addL
  | .add, .m => .addM
  | .add, .reg .a => .addA
  | .adc, .reg .b => .adcB
  | .adc, .reg .c => .adcC
  | .adc, .reg .d => .adcD
  | .adc, .reg .e => .adcE
  | .adc, .reg .h => .adcH
  | .adc, .reg .l => .adcL
  | .adc, .m => .adcM
  | .adc, .reg .a => .adcA
  | .sub, .reg .b => .subB
  | .sub, .reg .c => .subC
  | .sub, .reg .d => .subD
  | .sub, .reg .e => .subE
  | .sub, .reg .h => .subH
  | .sub, .reg .l => .subL
  | .sub, .m => .subM
  | .sub, .reg .a => .subA
  | .sbb, .reg .b => .sbbB
  | .sbb, .reg .c => .sbbC
  | .sbb, .reg .d => .sbbD
  | .sbb, .reg .e => .sbbE
  | .sbb, .reg .h => .sbbH
  | .sbb, .reg .l => .sbbL
  | .sbb, .m => .sbbM
  | .sbb, .reg .a => .sbbA
  | .ana, .reg .b => .anaB
  | .ana, .reg .c => .anaC
  | .ana, .reg .d => .anaD
  | .ana, .reg .e => .anaE
  | .ana, .reg .h => .anaH
  | .ana, .reg .l => .anaL
  | .ana, .m => .anaM
  | .ana, .reg .a => .anaA
  | .xra, .reg .b => .xraB
  | .xra, .reg .c => .xraC
  | .xra, .reg .d => .xraD
  | .xra, .reg .e => .xraE
  | .xra, .reg .h => .xraH
  | .xra, .reg .l => .xraL
  | .xra, .m => .xraM
  | .xra, .reg .a => .xraA
  | .ora, .reg .b => .oraB
  | .ora, .reg .c => .oraC
  | .ora, .reg .d => .oraD
  | .ora, .reg .e => .oraE
  | .ora, .reg .h => .oraH
  | .ora, .reg .l => .oraL
  | .ora, .m => .oraM
  | .ora, .reg .a => .oraA
  | .cmp, .reg .b => .cmpB
  | .cmp, .reg .c => .cmpC
  | .cmp, .reg .d => .cmpD
  | .cmp, .reg .e => .cmpE
  | .cmp, .reg .h => .cmpH
  | .cmp, .reg .l => .cmpL
  | .cmp, .m => .cmpM
  | .cmp, .reg .a => .cmpA

/-- `11aaa110`, then `d8`. -/
def aluImmInstr : AluOp → Byte → Instr
  | .add, v => .adi v
  | .adc, v => .aci v
  | .sub, v => .sui v
  | .sbb, v => .sbi v
  | .ana, v => .ani v
  | .xra, v => .xri v
  | .ora, v => .ori v
  | .cmp, v => .cpi v

/-- `00pp0001`, then the low and the high byte. -/
def lxiInstr : Pair → Word → Instr
  | .b, v => .lxiB v
  | .d, v => .lxiD v
  | .h, v => .lxiH v
  | .sp, v => .lxiSp v

/-- `00pp1001`. -/
def dadInstr : Pair → Instr
  | .b => .dadB
  | .d => .dadD
  | .h => .dadH
  | .sp => .dadSp

/-- `00pp0011`. -/
def inxInstr : Pair → Instr
  | .b => .inxB
  | .d => .inxD
  | .h => .inxH
  | .sp => .inxSp

/-- `00pp1011`. -/
def dcxInstr : Pair → Instr
  | .b => .dcxB
  | .d => .dcxD
  | .h => .dcxH
  | .sp => .dcxSp

/-- `000p0010`. -/
def staxInstr : BasePair → Instr
  | .b => .staxB
  | .d => .staxD

/-- `000p1010`. -/
def ldaxInstr : BasePair → Instr
  | .b => .ldaxB
  | .d => .ldaxD

/-- `11pp0101`. -/
def pushInstr : StackPair → Instr
  | .b => .pushB
  | .d => .pushD
  | .h => .pushH
  | .psw => .pushPsw

/-- `11pp0001`. -/
def popInstr : StackPair → Instr
  | .b => .popB
  | .d => .popD
  | .h => .popH
  | .psw => .popPsw

/-- `11ccc010`, then the address. -/
def jumpIfInstr : Cond → Word → Instr
  | .nz, v => .jnz v
  | .z, v => .jz v
  | .nc, v => .jnc v
  | .c, v => .jc v
  | .po, v => .jpo v
  | .pe, v => .jpe v
  | .p, v => .jp v
  | .m, v => .jm v

/-- `11ccc100`, then the address. -/
def callIfInstr : Cond → Word → Instr
  | .nz, v => .cnz v
  | .z, v => .cz v
  | .nc, v => .cnc v
  | .c, v => .cc v
  | .po, v => .cpo v
  | .pe, v => .cpe v
  | .p, v => .cp v
  | .m, v => .cm v

/-- `11ccc000`. -/
def returnIfInstr : Cond → Instr
  | .nz => .rnz
  | .z => .rz
  | .nc => .rnc
  | .c => .rc
  | .po => .rpo
  | .pe => .rpe
  | .p => .rp
  | .m => .rm

/-- `11nnn111`. -/
def rstInstr : Nat → Instr
  | 0 => .rst0
  | 1 => .rst1
  | 2 => .rst2
  | 3 => .rst3
  | 4 => .rst4
  | 5 => .rst5
  | 6 => .rst6
  | _ => .rst7

/-- `00nnn000`: `NOP` and its seven alias bytes (R69). -/
def nopInstr : Nat → Instr
  | 0 => .nop
  | 1 => .nop08
  | 2 => .nop10
  | 3 => .nop18
  | 4 => .nop20
  | 5 => .nop28
  | 6 => .nop30
  | _ => .nop38

/-- `000rr111`, and the fixed bytes `00100111` to `00111111` of the same column. -/
def accumulatorInstr : Nat → Instr
  | 0 => .rlc
  | 1 => .rrc
  | 2 => .ral
  | 3 => .rar
  | 4 => .daa
  | 5 => .cma
  | 6 => .stc
  | _ => .cmc

/-- Column `z = 2` of the first quadrant: `STAX`, `LDAX` and the four direct loads and stores. -/
def directInstr : Nat → Word → Instr
  | 0, _ => staxInstr .b
  | 1, _ => ldaxInstr .b
  | 2, _ => staxInstr .d
  | 3, _ => ldaxInstr .d
  | 4, v => .shld v
  | 5, v => .lhld v
  | 6, v => .sta v
  | _, v => .lda v

/-- Column `z = 1` of the last quadrant with `q = 1`. -/
def popColumnInstr : Nat → Instr
  | 0 => .ret
  | 1 => .retD9
  | 2 => .pchl
  | _ => .sphl

/-- Column `z = 3` of the last quadrant: `JMP`, its alias, `OUT`, `IN`, `XTHL`, `XCHG`, `DI`, `EI`. -/
def fixedColumnInstr : Nat → Byte → Byte → Instr
  | 0, b1, b2 => .jmp (mkWord b2 b1)
  | 1, b1, b2 => .jmpCB (mkWord b2 b1)
  | 2, b1, _ => .outPort b1
  | 3, b1, _ => .inPort b1
  | 4, _, _ => .xthl
  | 5, _, _ => .xchg
  | 6, _, _ => .di
  | _, _, _ => .ei

/-- Column `z = 5` of the last quadrant with `q = 1`: `CALL` and its three alias bytes. -/
def callColumnInstr : Nat → Word → Instr
  | 0, v => .call v
  | 1, v => .callDD v
  | 2, v => .callED v
  | _, v => .callFD v

/-! ## The decoder -/

/-- The instruction of an opcode byte and the two bytes after it (R61, R62); a form that is shorter than three bytes does not
look at the bytes it does not have. Total: every opcode byte is an instruction (R70). -/
def decodeBytes (op b1 b2 : Byte) : Instr :=
  match fieldX op, fieldZ op with
  | 0, 0 => nopInstr (fieldY op)
  | 0, 1 => if fieldQ op = 0 then lxiInstr (pairOf (fieldPP op)) (mkWord b2 b1) else dadInstr (pairOf (fieldPP op))
  | 0, 2 => directInstr (fieldY op) (mkWord b2 b1)
  | 0, 3 => if fieldQ op = 0 then inxInstr (pairOf (fieldPP op)) else dcxInstr (pairOf (fieldPP op))
  | 0, 4 => inrInstr (operandOf (fieldY op))
  | 0, 5 => dcrInstr (operandOf (fieldY op))
  | 0, 6 => mviInstr (operandOf (fieldY op)) b1
  | 0, _ => accumulatorInstr (fieldY op)
  | 1, z => movInstr (operandOf (fieldY op)) (operandOf z)
  | 2, z => aluInstr (aluOf (fieldY op)) (operandOf z)
  | _, 0 => returnIfInstr (condOf (fieldY op))
  | _, 1 => if fieldQ op = 0 then popInstr (stackPairOf (fieldPP op)) else popColumnInstr (fieldPP op)
  | _, 2 => jumpIfInstr (condOf (fieldY op)) (mkWord b2 b1)
  | _, 3 => fixedColumnInstr (fieldY op) b1 b2
  | _, 4 => callIfInstr (condOf (fieldY op)) (mkWord b2 b1)
  | _, 5 => if fieldQ op = 0 then pushInstr (stackPairOf (fieldPP op)) else callColumnInstr (fieldPP op) (mkWord b2 b1)
  | _, 6 => aluImmInstr (aluOf (fieldY op)) b1
  | _, _ => rstInstr (fieldY op)

/-- The 30 opcode bytes of length 3, as R60 lists them. -/
def lengthThreeOpcodes : List Byte :=
  [0x01, 0x11, 0x21, 0x31, 0x22, 0x2A, 0x32, 0x3A, 0xC3, 0xCB, 0xC2, 0xCA, 0xD2, 0xDA, 0xE2, 0xEA, 0xF2, 0xFA] ++
  [0xCD, 0xDD, 0xED, 0xFD, 0xC4, 0xCC, 0xD4, 0xDC, 0xE4, 0xEC, 0xF4, 0xFC]

/-- The 18 opcode bytes of length 2, as R60 lists them. -/
def lengthTwoOpcodes : List Byte :=
  [0x06, 0x0E, 0x16, 0x1E, 0x26, 0x2E, 0x36, 0x3E, 0xC6, 0xCE, 0xD6, 0xDE, 0xE6, 0xEE, 0xF6, 0xFE, 0xD3, 0xDB]

/-- The length of an instruction, a function of its opcode byte alone (R60). -/
def opcodeLength (op : Byte) : Nat :=
  if lengthThreeOpcodes.contains op then 3 else if lengthTwoOpcodes.contains op then 2 else 1

/-- Why a list of bytes is not an instruction followed by a rest. No byte value is among the reasons (R70): only the end of the
list is. -/
inductive DecodeError
  | noBytes
  | operandMissing (opcode : Byte)
  deriving DecidableEq, Repr

/-- The instruction at the front of a list of bytes, and the rest of the list. -/
def decode : List Byte → Except DecodeError (Instr × List Byte)
  | [] => .error .noBytes
  | op :: rest =>
    match opcodeLength op, rest with
    | 3, b1 :: b2 :: rest' => .ok (decodeBytes op b1 b2, rest')
    | 3, _ => .error (.operandMissing op)
    | 2, b1 :: rest' => .ok (decodeBytes op b1 0, rest')
    | 2, _ => .error (.operandMissing op)
    | _, rest' => .ok (decodeBytes op 0 0, rest')

/-! ## The encoder -/

/-- The bytes of an instruction (R61), its opcode byte from the map of R68, operand words low byte first (R63). -/
def encode : Instr → List Byte
  | .nop => [0x00]
  | .lxiB v => [0x01, loByte v, hiByte v]
  | .staxB => [0x02]
  | .inxB => [0x03]
  | .inrB => [0x04]
  | .dcrB => [0x05]
  | .mviB v => [0x06, v]
  | .rlc => [0x07]
  | .nop08 => [0x08]
  | .dadB => [0x09]
  | .ldaxB => [0x0A]
  | .dcxB => [0x0B]
  | .inrC => [0x0C]
  | .dcrC => [0x0D]
  | .mviC v => [0x0E, v]
  | .rrc => [0x0F]
  | .nop10 => [0x10]
  | .lxiD v => [0x11, loByte v, hiByte v]
  | .staxD => [0x12]
  | .inxD => [0x13]
  | .inrD => [0x14]
  | .dcrD => [0x15]
  | .mviD v => [0x16, v]
  | .ral => [0x17]
  | .nop18 => [0x18]
  | .dadD => [0x19]
  | .ldaxD => [0x1A]
  | .dcxD => [0x1B]
  | .inrE => [0x1C]
  | .dcrE => [0x1D]
  | .mviE v => [0x1E, v]
  | .rar => [0x1F]
  | .nop20 => [0x20]
  | .lxiH v => [0x21, loByte v, hiByte v]
  | .shld v => [0x22, loByte v, hiByte v]
  | .inxH => [0x23]
  | .inrH => [0x24]
  | .dcrH => [0x25]
  | .mviH v => [0x26, v]
  | .daa => [0x27]
  | .nop28 => [0x28]
  | .dadH => [0x29]
  | .lhld v => [0x2A, loByte v, hiByte v]
  | .dcxH => [0x2B]
  | .inrL => [0x2C]
  | .dcrL => [0x2D]
  | .mviL v => [0x2E, v]
  | .cma => [0x2F]
  | .nop30 => [0x30]
  | .lxiSp v => [0x31, loByte v, hiByte v]
  | .sta v => [0x32, loByte v, hiByte v]
  | .inxSp => [0x33]
  | .inrM => [0x34]
  | .dcrM => [0x35]
  | .mviM v => [0x36, v]
  | .stc => [0x37]
  | .nop38 => [0x38]
  | .dadSp => [0x39]
  | .lda v => [0x3A, loByte v, hiByte v]
  | .dcxSp => [0x3B]
  | .inrA => [0x3C]
  | .dcrA => [0x3D]
  | .mviA v => [0x3E, v]
  | .cmc => [0x3F]
  | .movBB => [0x40]
  | .movBC => [0x41]
  | .movBD => [0x42]
  | .movBE => [0x43]
  | .movBH => [0x44]
  | .movBL => [0x45]
  | .movBM => [0x46]
  | .movBA => [0x47]
  | .movCB => [0x48]
  | .movCC => [0x49]
  | .movCD => [0x4A]
  | .movCE => [0x4B]
  | .movCH => [0x4C]
  | .movCL => [0x4D]
  | .movCM => [0x4E]
  | .movCA => [0x4F]
  | .movDB => [0x50]
  | .movDC => [0x51]
  | .movDD => [0x52]
  | .movDE => [0x53]
  | .movDH => [0x54]
  | .movDL => [0x55]
  | .movDM => [0x56]
  | .movDA => [0x57]
  | .movEB => [0x58]
  | .movEC => [0x59]
  | .movED => [0x5A]
  | .movEE => [0x5B]
  | .movEH => [0x5C]
  | .movEL => [0x5D]
  | .movEM => [0x5E]
  | .movEA => [0x5F]
  | .movHB => [0x60]
  | .movHC => [0x61]
  | .movHD => [0x62]
  | .movHE => [0x63]
  | .movHH => [0x64]
  | .movHL => [0x65]
  | .movHM => [0x66]
  | .movHA => [0x67]
  | .movLB => [0x68]
  | .movLC => [0x69]
  | .movLD => [0x6A]
  | .movLE => [0x6B]
  | .movLH => [0x6C]
  | .movLL => [0x6D]
  | .movLM => [0x6E]
  | .movLA => [0x6F]
  | .movMB => [0x70]
  | .movMC => [0x71]
  | .movMD => [0x72]
  | .movME => [0x73]
  | .movMH => [0x74]
  | .movML => [0x75]
  | .hlt => [0x76]
  | .movMA => [0x77]
  | .movAB => [0x78]
  | .movAC => [0x79]
  | .movAD => [0x7A]
  | .movAE => [0x7B]
  | .movAH => [0x7C]
  | .movAL => [0x7D]
  | .movAM => [0x7E]
  | .movAA => [0x7F]
  | .addB => [0x80]
  | .addC => [0x81]
  | .addD => [0x82]
  | .addE => [0x83]
  | .addH => [0x84]
  | .addL => [0x85]
  | .addM => [0x86]
  | .addA => [0x87]
  | .adcB => [0x88]
  | .adcC => [0x89]
  | .adcD => [0x8A]
  | .adcE => [0x8B]
  | .adcH => [0x8C]
  | .adcL => [0x8D]
  | .adcM => [0x8E]
  | .adcA => [0x8F]
  | .subB => [0x90]
  | .subC => [0x91]
  | .subD => [0x92]
  | .subE => [0x93]
  | .subH => [0x94]
  | .subL => [0x95]
  | .subM => [0x96]
  | .subA => [0x97]
  | .sbbB => [0x98]
  | .sbbC => [0x99]
  | .sbbD => [0x9A]
  | .sbbE => [0x9B]
  | .sbbH => [0x9C]
  | .sbbL => [0x9D]
  | .sbbM => [0x9E]
  | .sbbA => [0x9F]
  | .anaB => [0xA0]
  | .anaC => [0xA1]
  | .anaD => [0xA2]
  | .anaE => [0xA3]
  | .anaH => [0xA4]
  | .anaL => [0xA5]
  | .anaM => [0xA6]
  | .anaA => [0xA7]
  | .xraB => [0xA8]
  | .xraC => [0xA9]
  | .xraD => [0xAA]
  | .xraE => [0xAB]
  | .xraH => [0xAC]
  | .xraL => [0xAD]
  | .xraM => [0xAE]
  | .xraA => [0xAF]
  | .oraB => [0xB0]
  | .oraC => [0xB1]
  | .oraD => [0xB2]
  | .oraE => [0xB3]
  | .oraH => [0xB4]
  | .oraL => [0xB5]
  | .oraM => [0xB6]
  | .oraA => [0xB7]
  | .cmpB => [0xB8]
  | .cmpC => [0xB9]
  | .cmpD => [0xBA]
  | .cmpE => [0xBB]
  | .cmpH => [0xBC]
  | .cmpL => [0xBD]
  | .cmpM => [0xBE]
  | .cmpA => [0xBF]
  | .rnz => [0xC0]
  | .popB => [0xC1]
  | .jnz v => [0xC2, loByte v, hiByte v]
  | .jmp v => [0xC3, loByte v, hiByte v]
  | .cnz v => [0xC4, loByte v, hiByte v]
  | .pushB => [0xC5]
  | .adi v => [0xC6, v]
  | .rst0 => [0xC7]
  | .rz => [0xC8]
  | .ret => [0xC9]
  | .jz v => [0xCA, loByte v, hiByte v]
  | .jmpCB v => [0xCB, loByte v, hiByte v]
  | .cz v => [0xCC, loByte v, hiByte v]
  | .call v => [0xCD, loByte v, hiByte v]
  | .aci v => [0xCE, v]
  | .rst1 => [0xCF]
  | .rnc => [0xD0]
  | .popD => [0xD1]
  | .jnc v => [0xD2, loByte v, hiByte v]
  | .outPort v => [0xD3, v]
  | .cnc v => [0xD4, loByte v, hiByte v]
  | .pushD => [0xD5]
  | .sui v => [0xD6, v]
  | .rst2 => [0xD7]
  | .rc => [0xD8]
  | .retD9 => [0xD9]
  | .jc v => [0xDA, loByte v, hiByte v]
  | .inPort v => [0xDB, v]
  | .cc v => [0xDC, loByte v, hiByte v]
  | .callDD v => [0xDD, loByte v, hiByte v]
  | .sbi v => [0xDE, v]
  | .rst3 => [0xDF]
  | .rpo => [0xE0]
  | .popH => [0xE1]
  | .jpo v => [0xE2, loByte v, hiByte v]
  | .xthl => [0xE3]
  | .cpo v => [0xE4, loByte v, hiByte v]
  | .pushH => [0xE5]
  | .ani v => [0xE6, v]
  | .rst4 => [0xE7]
  | .rpe => [0xE8]
  | .pchl => [0xE9]
  | .jpe v => [0xEA, loByte v, hiByte v]
  | .xchg => [0xEB]
  | .cpe v => [0xEC, loByte v, hiByte v]
  | .callED v => [0xED, loByte v, hiByte v]
  | .xri v => [0xEE, v]
  | .rst5 => [0xEF]
  | .rp => [0xF0]
  | .popPsw => [0xF1]
  | .jp v => [0xF2, loByte v, hiByte v]
  | .di => [0xF3]
  | .cp v => [0xF4, loByte v, hiByte v]
  | .pushPsw => [0xF5]
  | .ori v => [0xF6, v]
  | .rst6 => [0xF7]
  | .rm => [0xF8]
  | .sphl => [0xF9]
  | .jm v => [0xFA, loByte v, hiByte v]
  | .ei => [0xFB]
  | .cm v => [0xFC, loByte v, hiByte v]
  | .callFD v => [0xFD, loByte v, hiByte v]
  | .cpi v => [0xFE, v]
  | .rst7 => [0xFF]

/-- The opcode byte of an instruction. -/
def Instr.opcode (i : Instr) : Byte := (encode i).headD 0

/-- The length of an instruction in bytes (R60). -/
def Instr.length (i : Instr) : Nat := (encode i).length

/-! ## Words numbered as the opcode table numbers them -/

/-- The three bytes, first in memory first, of an instruction whose bits are the low `nbits` bits of `w` and zero above them.
No instruction is longer (R60). -/
def tableWordBytes (nbits w : Nat) : List Byte :=
  [BitVec.ofNat 8 (w % 2 ^ nbits), BitVec.ofNat 8 (w % 2 ^ nbits / 256), BitVec.ofNat 8 (w % 2 ^ nbits / 65536)]

/-- The instruction the decoder reads from a word of the opcode table. -/
def decodeTableWord (nbits w : Nat) : Option Instr :=
  match decode (tableWordBytes nbits w) with
  | .ok (i, _) => some i
  | .error _ => none

end Sys2Proof
end

