-- ==== Sys2Proof/Machine/Ops.lean ====
section
/-! DEFINITION. The named operations over memory, the stack and the state's fields, and taking an interrupt with the return
from one beside it. -/

namespace Sys2Proof.Machine

/-! ## Memory -/

/-- The byte at address `k`: its entry, or what an unlisted address reads as. -/
def Memory.lookup : Memory → Nat → Byte
  | [], _ => Config.unlistedByte
  | (k', v) :: rest, k => if k' = k then v else Memory.lookup rest k

/-- Puts an entry in its place by address. -/
def Memory.place (k : Nat) (v : Byte) : Memory → Memory
  | [] => [(k, v)]
  | (k', v') :: rest => if k' < k then (k', v') :: Memory.place k v rest else (k, v) :: (k', v') :: rest

/-- Drops the entries of address `k`. -/
def Memory.drop (k : Nat) : Memory → Memory
  | [] => []
  | (k', v) :: rest => if k' = k then Memory.drop k rest else (k', v) :: Memory.drop k rest

/-- `MemRead(addr, 1)` (R8). -/
def Memory.read (m : Memory) (addr : Word) : Byte := Memory.lookup m addr.toNat

/-- `MemWrite(addr, 1, v)` (R8, R44): exactly the addressed byte. Writing what an unlisted address reads as removes the entry. -/
def Memory.write (m : Memory) (addr : Word) (v : Byte) : Memory :=
  if v = Config.unlistedByte then Memory.drop addr.toNat m else Memory.place addr.toNat v (Memory.drop addr.toNat m)

/-- `MemWrite(addr, 2, v)` (R8, R41): the low byte at `addr`, the high byte at `addr + 1 mod 2^16`. -/
def Memory.writeWord (m : Memory) (addr v : Word) : Memory :=
  Memory.write (Memory.write m addr (loByte v)) (addr + 1) (hiByte v)

/-- Bytes written at addresses, in order. -/
def Memory.writeAll (m : Memory) : List (Word × Byte) → Memory
  | [] => m
  | (addr, v) :: rest => Memory.writeAll (Memory.write m addr v) rest

/-- An image placed at consecutive addresses from `addr` on (R28, R56). -/
def Memory.load (m : Memory) (addr : Word) : List Byte → Memory
  | [] => m
  | v :: rest => Memory.load (Memory.write m addr v) (addr + 1) rest

/-! ## One field of the state at a time -/

def State.setRegs (s : State) (v : Regs) : State := { s with regs := v }
def State.setSp (s : State) (v : Word) : State := { s with sp := v }
def State.setPc (s : State) (v : Word) : State := { s with pc := v }
def State.setFlags (s : State) (v : Flags) : State := { s with flags := v }
def State.setHalted (s : State) (v : Bool) : State := { s with halted := v }
def State.setIntEnable (s : State) (v : Bool) : State := { s with intEnable := v }
def State.setInterruptNumber (s : State) (v : InterruptNumber) : State := { s with interruptNumber := v }
def State.setBridge (s : State) (v : Bridge) : State := { s with bridge := v }
def State.setMem (s : State) (v : Memory) : State := { s with mem := v }
def State.setDraws (s : State) (v : Nat) : State := { s with draws := v }
def State.setSchedule (s : State) (v : List HostAction) : State := { s with schedule := v }

/-- The end of an instruction of `n` bytes that does not transfer control: `pc <- (pc + n) mod 2^16` (R15). -/
def State.advance (s : State) (n : Nat) : State := s.setPc (s.pc + BitVec.ofNat 16 n)

/-- Writes the accumulator. -/
def State.setA (s : State) (v : Byte) : State := s.setRegs { s.regs with a := v }

/-- Writes the carry flag and no other. -/
def State.setCy (s : State) (v : Bool) : State := s.setFlags { s.flags with cy := v }

/-- The byte of memory at an address. -/
def State.readByte (s : State) (addr : Word) : Byte := Memory.read s.mem addr

/-- `MemRead(addr, 2)` (R8): the low byte at `addr`, the high byte at `addr + 1 mod 2^16`. -/
def State.readWord (s : State) (addr : Word) : Word := mkWord (s.readByte (addr + 1)) (s.readByte addr)

/-- Writes one byte of memory. -/
def State.writeByte (s : State) (addr : Word) (v : Byte) : State := s.setMem (Memory.write s.mem addr v)

/-- Writes a word of memory, low byte first. -/
def State.writeWord (s : State) (addr v : Word) : State := s.setMem (Memory.writeWord s.mem addr v)

/-! ## The stack -/

/-- `Push16(v)` (R8, R13): the high byte at `sp - 1`, the low byte at `sp - 2`, then `sp <- sp - 2`. -/
def push16 (v : Word) (s : State) : State :=
  ((s.writeByte (s.sp - 1) (hiByte v)).writeByte (s.sp - 2) (loByte v)).setSp (s.sp - 2)

/-- The word `Pop16()` reads (R8): low byte at `sp`, high byte at `sp + 1`. -/
def topWord (s : State) : Word := s.readWord s.sp

/-- What `Pop16()` does to the state (R8): `sp <- sp + 2`. -/
def dropWord (s : State) : State := s.setSp (s.sp + 2)

/-! ## Taking an interrupt, and the return from one -/

/-- `IntPushBias` (R257, D2): decided 0, so that the stack holds true return addresses (R191). Log entry 9. -/
def intPushBias : Word := 0

/-- `8 * interrupt_number` (R258). -/
def vectorOf : InterruptNumber → Word
  | .one => 0x0008
  | .two => 0x0010

/-- `3 - interrupt_number` (R257). -/
def nextInterruptNumber : InterruptNumber → InterruptNumber
  | .one => .two
  | .two => .one

/-- The service of an accepted interrupt request (R257): `halted` cleared, `pc` pushed, control to the vector, interrupts
disabled, the vector number toggled. -/
def takeInterrupt (s : State) : State :=
  ((((push16 (s.pc - intPushBias) s).setHalted false).setPc (vectorOf s.interruptNumber)).setIntEnable false).setInterruptNumber
    (nextInterruptNumber s.interruptNumber)

/-- The event `Interrupt` at a boundary (R254, R257): a request made while interrupts are disabled changes nothing at all and is
not remembered (R255). -/
def serviceInterrupt (s : State) : State := if s.intEnable then takeInterrupt s else s

/-- The return from a call or from an interrupt (R184, R260): the word on top of the stack is popped into `pc`. Nothing else is
restored. -/
def returnTo (s : State) : State := (dropWord s).setPc (topWord s)

/-- A call (R182): the return address is pushed, then control goes to the target. -/
def callTo (target ret : Word) (s : State) : State := (push16 ret s).setPc target

/-! ## Reset -/

/-- The event `Reset` (R280, R28): the fields the spec gives a value take it, the fields it leaves arbitrary take the launch
values, the image is placed from address 0 on, and the input latches keep "whatever the host has written". -/
def launch (l : Launch) (s : State) : State where
  regs := l.regs
  sp := l.sp
  pc := 0x0000
  flags := l.flags
  halted := false
  intEnable := false
  interruptNumber := .one
  bridge :=
    { port1 := s.bridge.port1, port2 := s.bridge.port2
      outPort3 := l.outPort3, outPort3Prev := l.outPort3Prev, outPort5 := l.outPort5, outPort5Prev := l.outPort5Prev
      shift0 := l.shift0, shift1 := l.shift1, shiftOffset := l.shiftOffset }
  mem := Memory.load (Memory.writeAll [] l.mem) 0x0000 l.image
  draws := s.draws
  schedule := s.schedule

end Sys2Proof.Machine
end

