-- ==== Sys2Proof/Machine/Operands.lean ====
section
/-! DEFINITION. The operand forms: registers, `M`, register pairs, stack pairs and the addresses of `LDAX` and `STAX`. -/

namespace Sys2Proof.Machine

/-- The content of a register. -/
def Regs.get (g : Regs) : Reg → Byte
  | .b => g.b
  | .c => g.c
  | .d => g.d
  | .e => g.e
  | .h => g.h
  | .l => g.l
  | .a => g.a

/-- A write to one register changes no other (R10). -/
def Regs.set (g : Regs) (r : Reg) (v : Byte) : Regs :=
  match r with
  | .b => { g with b := v }
  | .c => { g with c := v }
  | .d => { g with d := v }
  | .e => { g with e := v }
  | .h => { g with h := v }
  | .l => { g with l := v }
  | .a => { g with a := v }

/-- `BC = {B, C}` (R12). -/
def Regs.bc (g : Regs) : Word := mkWord g.b g.c

/-- `DE = {D, E}` (R12). -/
def Regs.de (g : Regs) : Word := mkWord g.d g.e

/-- `HL = {H, L}` (R12). -/
def Regs.hl (g : Regs) : Word := mkWord g.h g.l

/-- `BC <- v` (R12). -/
def Regs.setBC (g : Regs) (v : Word) : Regs := { g with b := hiByte v, c := loByte v }

/-- `DE <- v` (R12). -/
def Regs.setDE (g : Regs) (v : Word) : Regs := { g with d := hiByte v, e := loByte v }

/-- `HL <- v` (R12). -/
def Regs.setHL (g : Regs) (v : Word) : Regs := { g with h := hiByte v, l := loByte v }

/-- The address of operand `M`. -/
def State.hl (s : State) : Word := s.regs.hl

/-- `R[c]` read (R64): a register, or the memory byte at `HL`. -/
def State.readOperand (s : State) : Operand → Byte
  | .reg r => s.regs.get r
  | .m => s.readByte s.hl

/-- `R[c]` written (R64). -/
def State.writeOperand (s : State) (o : Operand) (v : Byte) : State :=
  match o with
  | .reg r => s.setRegs (s.regs.set r v)
  | .m => s.writeByte s.hl v

/-- The 16-bit operand of `LXI INX DCX DAD`, read (R65). -/
def State.readPair (s : State) : Pair → Word
  | .b => s.regs.bc
  | .d => s.regs.de
  | .h => s.regs.hl
  | .sp => s.sp

/-- The 16-bit operand of `LXI INX DCX`, written (R65, R12). -/
def State.writePair (s : State) (p : Pair) (v : Word) : State :=
  match p with
  | .b => s.setRegs (s.regs.setBC v)
  | .d => s.setRegs (s.regs.setDE v)
  | .h => s.setRegs (s.regs.setHL v)
  | .sp => s.setSp v

/-- The address `LDAX` and `STAX` use (R110, R111). -/
def State.baseAddress (s : State) : BasePair → Word
  | .b => s.regs.bc
  | .d => s.regs.de

end Sys2Proof.Machine
end

