-- ==== Sys2Proof/Machine/Flags.lean ====
section
/-! DEFINITION. The flag engine: every flag computation of the instruction set, the packed flag byte, and the condition codes. -/

namespace Sys2Proof.Machine

/-! ## Flags of an 8-bit result -/

/-- `popcount(v)` (R7) of an 8-bit value; no bit above bit 7 is counted (R82). -/
def popcount (v : Byte) : Nat :=
  (v.getLsbD 0).toNat + (v.getLsbD 1).toNat + (v.getLsbD 2).toNat + (v.getLsbD 3).toNat +
  (v.getLsbD 4).toNat + (v.getLsbD 5).toNat + (v.getLsbD 6).toNat + (v.getLsbD 7).toNat

/-- `SetZSP(v)` (R89, from R80, R81, R82): zero, sign and parity of the result; carry and auxiliary carry stay. -/
def setZSP (v : Byte) (f : Flags) : Flags :=
  { f with z := decide (v = 0), s := v.getLsbD 7, p := decide (popcount v % 2 = 0) }

/-- All five flags of a result, given its two carries. -/
def flagsOf (v : Byte) (cy ac : Bool) : Flags := setZSP v { z := false, s := false, p := false, cy := cy, ac := ac }

/-- The low nibble of a byte, `a & 0xF`. -/
def lowNibble (a : Byte) : Nat := a.toNat % 16

/-! ## Addition, subtraction and logic, with all five flags -/

/-- `Add8(a, b, cin)` (R120; R83, R86): the result and the flags. -/
def add8 (a b : Byte) (cin : Bool) : Byte × Flags :=
  let t := a.toNat + b.toNat + cin.toNat
  let r : Byte := BitVec.ofNat 8 t
  (r, flagsOf r (decide (t > 0xFF)) (decide (lowNibble a + lowNibble b + cin.toNat > 0xF)))

/-- `Sub8(a, b, bin)` (R121; R84, R87): the result and the flags; both carries are borrows. -/
def sub8 (a b : Byte) (bin : Bool) : Byte × Flags :=
  let t : Int := (a.toNat : Int) - b.toNat - bin.toNat
  let r : Byte := BitVec.ofInt 8 t
  (r, flagsOf r (decide (t < 0)) (decide ((lowNibble a : Int) - lowNibble b - bin.toNat < 0)))

/-! The auxiliary carry outside the add and subtract families: `AcPolicy` at the value the spec decides (R88, D4). Log entry 8. -/

/-- `ac` of an increment (R88 (a)): the low nibble of the operand was `0xF`. -/
def acIncrement (v : Byte) : Bool := decide (lowNibble v = 0xF)

/-- `ac` of a decrement (R88 (b)): the low nibble of the operand was `0x0`, a borrow. -/
def acDecrement (v : Byte) : Bool := decide (lowNibble v = 0x0)

/-- `ac` of a bitwise operation (R88 (c)). -/
def acLogical : Bool := false

/-- `Logic8(r)` (R150; R85): the result of a bitwise operation with its flags. -/
def logic8 (r : Byte) : Byte × Flags := (r, flagsOf r false acLogical)

/-- Increment (R134): the result, and the flags after it; the carry stays. -/
def increment (v : Byte) (f : Flags) : Byte × Flags := (v + 1, setZSP (v + 1) { f with ac := acIncrement v })

/-- Decrement (R136): the result, and the flags after it; the carry stays. -/
def decrement (v : Byte) (f : Flags) : Byte × Flags := (v - 1, setZSP (v - 1) { f with ac := acDecrement v })

/-! ## Decimal adjust -/

/-- Stage 1 of `DAA` (R141), on the low nibble: the accumulator and the two carries it leaves. -/
def daaLow (a : Byte) (cy ac : Bool) : Byte × Bool × Bool :=
  if lowNibble a > 9 ∨ ac = true then
    (BitVec.ofNat 8 (a.toNat + 0x06), cy || decide (a.toNat + 0x06 > 0xFF), decide (lowNibble a + 6 > 0xF))
  else (a, cy, false)

/-- Stage 2 of `DAA` (R141), on the high nibble of what stage 1 left: the accumulator and the carry. -/
def daaHigh (a : Byte) (cy : Bool) : Byte × Bool :=
  if a.toNat / 16 > 9 ∨ cy = true then (BitVec.ofNat 8 (a.toNat + 0x60), cy || decide (a.toNat + 0x60 > 0xFF)) else (a, cy)

/-- `DAA` (R141): both stages, and the flags of the final accumulator. The carry is never cleared. -/
def decimalAdjust (a : Byte) (f : Flags) : Byte × Flags :=
  let (a1, cy1, ac1) := daaLow a f.cy f.ac
  let (a2, cy2) := daaHigh a1 cy1
  (a2, flagsOf a2 cy2 ac1)

/-! ## Rotates: the accumulator and the carry they leave -/

/-- A flag as bit `k` of a byte. -/
def bitAt (b : Bool) (k : Nat) : Byte := BitVec.ofNat 8 (b.toNat * 2 ^ k)

/-- `RLC` (R163). -/
def rotateLeft (a : Byte) : Byte × Bool := ((a <<< 1) ||| bitAt (a.getLsbD 7) 0, a.getLsbD 7)

/-- `RRC` (R164). -/
def rotateRight (a : Byte) : Byte × Bool := ((a >>> 1) ||| bitAt (a.getLsbD 0) 7, a.getLsbD 0)

/-- `RAL` (R165): the old carry enters bit 0. -/
def rotateLeftThroughCarry (a : Byte) (cy : Bool) : Byte × Bool := ((a <<< 1) ||| bitAt cy 0, a.getLsbD 7)

/-- `RAR` (R166): the old carry enters bit 7. -/
def rotateRightThroughCarry (a : Byte) (cy : Bool) : Byte × Bool := ((a >>> 1) ||| bitAt cy 7, a.getLsbD 0)

/-! ## The packed flag byte -/

/-- `PackFlags()` (R90, R18): bit 1 is 1, bits 3 and 5 are 0. -/
def packFlags (f : Flags) : Byte :=
  bitAt f.cy 0 ||| bitAt true 1 ||| bitAt f.p 2 ||| bitAt f.ac 4 ||| bitAt f.z 6 ||| bitAt f.s 7

/-- `UnpackFlags(b)` (R91): bits 1, 3 and 5 are ignored. -/
def unpackFlags (b : Byte) : Flags :=
  { cy := b.getLsbD 0, p := b.getLsbD 2, ac := b.getLsbD 4, z := b.getLsbD 6, s := b.getLsbD 7 }

/-! ## Condition codes -/

/-- `Cond(ccc)` (R92): reads one flag. -/
def condHolds (f : Flags) : Cond → Bool
  | .nz => !f.z
  | .z => f.z
  | .nc => !f.cy
  | .c => f.cy
  | .po => !f.p
  | .pe => f.p
  | .p => !f.s
  | .m => f.s

end Sys2Proof.Machine
end

