-- ==== Sys2Proof/Machine/Arithmetic.lean ====
section
/-! DEFINITION. Arithmetic: `ADD ADC SUB SBB` and their immediate forms, `INR DCR INX DCX DAD DAA`. -/

namespace Sys2Proof.Machine

/-- The end of an operation on the accumulator of `n` bytes that writes the accumulator and all five flags. -/
def State.setResult (s : State) (r : Byte × Flags) (n : Nat) : State := ((s.setA r.1).setFlags r.2).advance n

/-- `ADD` and `ADI` (R122, R123, R124) of operand value `v`. -/
def addOp (v : Byte) (n : Nat) (s : State) : State := s.setResult (add8 s.regs.a v false) n

/-- `ADC` and `ACI` (R125, R126, R127). -/
def adcOp (v : Byte) (n : Nat) (s : State) : State := s.setResult (add8 s.regs.a v s.flags.cy) n

/-- `SUB` and `SUI` (R128, R129, R130). -/
def subOp (v : Byte) (n : Nat) (s : State) : State := s.setResult (sub8 s.regs.a v false) n

/-- `SBB` and `SBI` (R131, R132, R133). -/
def sbbOp (v : Byte) (n : Nat) (s : State) : State := s.setResult (sub8 s.regs.a v s.flags.cy) n

/-- `INR` (R134, R135). -/
def inrOp (o : Operand) (s : State) : State :=
  let r := increment (s.readOperand o) s.flags
  ((s.writeOperand o r.1).setFlags r.2).advance 1

/-- `DCR` (R136, R137). -/
def dcrOp (o : Operand) (s : State) : State :=
  let r := decrement (s.readOperand o) s.flags
  ((s.writeOperand o r.1).setFlags r.2).advance 1

/-- `INX` (R138). -/
def inxOp (p : Pair) (s : State) : State := (s.writePair p (s.readPair p + 1)).advance 1

/-- `DCX` (R139). -/
def dcxOp (p : Pair) (s : State) : State := (s.writePair p (s.readPair p - 1)).advance 1

/-- `DAD` (R140): `cy` is the carry out of bit 15. -/
def dadOp (p : Pair) (s : State) : State :=
  let t := s.hl.toNat + (s.readPair p).toNat
  ((s.setRegs (s.regs.setHL (BitVec.ofNat 16 t))).setCy (decide (t > 0xFFFF))).advance 1

/-- `DAA` (R141). -/
def daaOp (s : State) : State := s.setResult (decimalAdjust s.regs.a s.flags) 1

/-! ## One meaning for each opcode of the family -/

/-- `INX B` (R138). -/
def execInxB (s : State) : Host.Outcome State Fault Refusal := .next (inxOp .b s)

/-- `INR B` (R134). -/
def execInrB (s : State) : Host.Outcome State Fault Refusal := .next (inrOp (.reg .b) s)

/-- `DCR B` (R136). -/
def execDcrB (s : State) : Host.Outcome State Fault Refusal := .next (dcrOp (.reg .b) s)

/-- `DAD B` (R140). -/
def execDadB (s : State) : Host.Outcome State Fault Refusal := .next (dadOp .b s)

/-- `DCX B` (R139). -/
def execDcxB (s : State) : Host.Outcome State Fault Refusal := .next (dcxOp .b s)

/-- `INR C` (R134). -/
def execInrC (s : State) : Host.Outcome State Fault Refusal := .next (inrOp (.reg .c) s)

/-- `DCR C` (R136). -/
def execDcrC (s : State) : Host.Outcome State Fault Refusal := .next (dcrOp (.reg .c) s)

/-- `INX D` (R138). -/
def execInxD (s : State) : Host.Outcome State Fault Refusal := .next (inxOp .d s)

/-- `INR D` (R134). -/
def execInrD (s : State) : Host.Outcome State Fault Refusal := .next (inrOp (.reg .d) s)

/-- `DCR D` (R136). -/
def execDcrD (s : State) : Host.Outcome State Fault Refusal := .next (dcrOp (.reg .d) s)

/-- `DAD D` (R140). -/
def execDadD (s : State) : Host.Outcome State Fault Refusal := .next (dadOp .d s)

/-- `DCX D` (R139). -/
def execDcxD (s : State) : Host.Outcome State Fault Refusal := .next (dcxOp .d s)

/-- `INR E` (R134). -/
def execInrE (s : State) : Host.Outcome State Fault Refusal := .next (inrOp (.reg .e) s)

/-- `DCR E` (R136). -/
def execDcrE (s : State) : Host.Outcome State Fault Refusal := .next (dcrOp (.reg .e) s)

/-- `INX H` (R138). -/
def execInxH (s : State) : Host.Outcome State Fault Refusal := .next (inxOp .h s)

/-- `INR H` (R134). -/
def execInrH (s : State) : Host.Outcome State Fault Refusal := .next (inrOp (.reg .h) s)

/-- `DCR H` (R136). -/
def execDcrH (s : State) : Host.Outcome State Fault Refusal := .next (dcrOp (.reg .h) s)

/-- `DAA` (R141). -/
def execDaa (s : State) : Host.Outcome State Fault Refusal := .next (daaOp s)

/-- `DAD H` (R140). -/
def execDadH (s : State) : Host.Outcome State Fault Refusal := .next (dadOp .h s)

/-- `DCX H` (R139). -/
def execDcxH (s : State) : Host.Outcome State Fault Refusal := .next (dcxOp .h s)

/-- `INR L` (R134). -/
def execInrL (s : State) : Host.Outcome State Fault Refusal := .next (inrOp (.reg .l) s)

/-- `DCR L` (R136). -/
def execDcrL (s : State) : Host.Outcome State Fault Refusal := .next (dcrOp (.reg .l) s)

/-- `INX SP` (R138). -/
def execInxSp (s : State) : Host.Outcome State Fault Refusal := .next (inxOp .sp s)

/-- `INR M` (R135). -/
def execInrM (s : State) : Host.Outcome State Fault Refusal := .next (inrOp .m s)

/-- `DCR M` (R137). -/
def execDcrM (s : State) : Host.Outcome State Fault Refusal := .next (dcrOp .m s)

/-- `DAD SP` (R140). -/
def execDadSp (s : State) : Host.Outcome State Fault Refusal := .next (dadOp .sp s)

/-- `DCX SP` (R139). -/
def execDcxSp (s : State) : Host.Outcome State Fault Refusal := .next (dcxOp .sp s)

/-- `INR A` (R134). -/
def execInrA (s : State) : Host.Outcome State Fault Refusal := .next (inrOp (.reg .a) s)

/-- `DCR A` (R136). -/
def execDcrA (s : State) : Host.Outcome State Fault Refusal := .next (dcrOp (.reg .a) s)

/-- `ADD B` (R122). -/
def execAddB (s : State) : Host.Outcome State Fault Refusal := .next (addOp (s.readOperand (.reg .b)) 1 s)

/-- `ADD C` (R122). -/
def execAddC (s : State) : Host.Outcome State Fault Refusal := .next (addOp (s.readOperand (.reg .c)) 1 s)

/-- `ADD D` (R122). -/
def execAddD (s : State) : Host.Outcome State Fault Refusal := .next (addOp (s.readOperand (.reg .d)) 1 s)

/-- `ADD E` (R122). -/
def execAddE (s : State) : Host.Outcome State Fault Refusal := .next (addOp (s.readOperand (.reg .e)) 1 s)

/-- `ADD H` (R122). -/
def execAddH (s : State) : Host.Outcome State Fault Refusal := .next (addOp (s.readOperand (.reg .h)) 1 s)

/-- `ADD L` (R122). -/
def execAddL (s : State) : Host.Outcome State Fault Refusal := .next (addOp (s.readOperand (.reg .l)) 1 s)

/-- `ADD M` (R123). -/
def execAddM (s : State) : Host.Outcome State Fault Refusal := .next (addOp (s.readOperand .m) 1 s)

/-- `ADD A` (R122). -/
def execAddA (s : State) : Host.Outcome State Fault Refusal := .next (addOp (s.readOperand (.reg .a)) 1 s)

/-- `ADC B` (R125). -/
def execAdcB (s : State) : Host.Outcome State Fault Refusal := .next (adcOp (s.readOperand (.reg .b)) 1 s)

/-- `ADC C` (R125). -/
def execAdcC (s : State) : Host.Outcome State Fault Refusal := .next (adcOp (s.readOperand (.reg .c)) 1 s)

/-- `ADC D` (R125). -/
def execAdcD (s : State) : Host.Outcome State Fault Refusal := .next (adcOp (s.readOperand (.reg .d)) 1 s)

/-- `ADC E` (R125). -/
def execAdcE (s : State) : Host.Outcome State Fault Refusal := .next (adcOp (s.readOperand (.reg .e)) 1 s)

/-- `ADC H` (R125). -/
def execAdcH (s : State) : Host.Outcome State Fault Refusal := .next (adcOp (s.readOperand (.reg .h)) 1 s)

/-- `ADC L` (R125). -/
def execAdcL (s : State) : Host.Outcome State Fault Refusal := .next (adcOp (s.readOperand (.reg .l)) 1 s)

/-- `ADC M` (R126). -/
def execAdcM (s : State) : Host.Outcome State Fault Refusal := .next (adcOp (s.readOperand .m) 1 s)

/-- `ADC A` (R125). -/
def execAdcA (s : State) : Host.Outcome State Fault Refusal := .next (adcOp (s.readOperand (.reg .a)) 1 s)

/-- `SUB B` (R128). -/
def execSubB (s : State) : Host.Outcome State Fault Refusal := .next (subOp (s.readOperand (.reg .b)) 1 s)

/-- `SUB C` (R128). -/
def execSubC (s : State) : Host.Outcome State Fault Refusal := .next (subOp (s.readOperand (.reg .c)) 1 s)

/-- `SUB D` (R128). -/
def execSubD (s : State) : Host.Outcome State Fault Refusal := .next (subOp (s.readOperand (.reg .d)) 1 s)

/-- `SUB E` (R128). -/
def execSubE (s : State) : Host.Outcome State Fault Refusal := .next (subOp (s.readOperand (.reg .e)) 1 s)

/-- `SUB H` (R128). -/
def execSubH (s : State) : Host.Outcome State Fault Refusal := .next (subOp (s.readOperand (.reg .h)) 1 s)

/-- `SUB L` (R128). -/
def execSubL (s : State) : Host.Outcome State Fault Refusal := .next (subOp (s.readOperand (.reg .l)) 1 s)

/-- `SUB M` (R129). -/
def execSubM (s : State) : Host.Outcome State Fault Refusal := .next (subOp (s.readOperand .m) 1 s)

/-- `SUB A` (R128). -/
def execSubA (s : State) : Host.Outcome State Fault Refusal := .next (subOp (s.readOperand (.reg .a)) 1 s)

/-- `SBB B` (R131). -/
def execSbbB (s : State) : Host.Outcome State Fault Refusal := .next (sbbOp (s.readOperand (.reg .b)) 1 s)

/-- `SBB C` (R131). -/
def execSbbC (s : State) : Host.Outcome State Fault Refusal := .next (sbbOp (s.readOperand (.reg .c)) 1 s)

/-- `SBB D` (R131). -/
def execSbbD (s : State) : Host.Outcome State Fault Refusal := .next (sbbOp (s.readOperand (.reg .d)) 1 s)

/-- `SBB E` (R131). -/
def execSbbE (s : State) : Host.Outcome State Fault Refusal := .next (sbbOp (s.readOperand (.reg .e)) 1 s)

/-- `SBB H` (R131). -/
def execSbbH (s : State) : Host.Outcome State Fault Refusal := .next (sbbOp (s.readOperand (.reg .h)) 1 s)

/-- `SBB L` (R131). -/
def execSbbL (s : State) : Host.Outcome State Fault Refusal := .next (sbbOp (s.readOperand (.reg .l)) 1 s)

/-- `SBB M` (R132). -/
def execSbbM (s : State) : Host.Outcome State Fault Refusal := .next (sbbOp (s.readOperand .m) 1 s)

/-- `SBB A` (R131). -/
def execSbbA (s : State) : Host.Outcome State Fault Refusal := .next (sbbOp (s.readOperand (.reg .a)) 1 s)

/-- `ADI d8` (R124). -/
def execAdi (d8 : Byte) (s : State) : Host.Outcome State Fault Refusal := .next (addOp d8 2 s)

/-- `ACI d8` (R127). -/
def execAci (d8 : Byte) (s : State) : Host.Outcome State Fault Refusal := .next (adcOp d8 2 s)

/-- `SUI d8` (R130). -/
def execSui (d8 : Byte) (s : State) : Host.Outcome State Fault Refusal := .next (subOp d8 2 s)

/-- `SBI d8` (R133). -/
def execSbi (d8 : Byte) (s : State) : Host.Outcome State Fault Refusal := .next (sbbOp d8 2 s)

end Sys2Proof.Machine
end

