-- ==== Sys2Proof/Machine/Branch.lean ====
section
/-! DEFINITION. Control transfer: jumps, calls, returns, restarts, `PCHL`. None of them writes a flag. -/

namespace Sys2Proof.Machine

/-- `JMP` and its alias byte (R180, R188). -/
def jmpOp (a16 : Word) (s : State) : State := s.setPc a16

/-- The conditional jumps (R181). -/
def jumpIfOp (cond : Cond) (a16 : Word) (s : State) : State := if condHolds s.flags cond then s.setPc a16 else s.advance 3

/-- `PCHL` (R187). -/
def pchlOp (s : State) : State := s.setPc s.hl

/-- `CALL` and its alias bytes (R182, R190). The target was read with the instruction, before the push (R54). -/
def callOp (a16 : Word) (s : State) : State := callTo a16 (s.pc + 3) s

/-- The conditional calls (R183). -/
def callIfOp (cond : Cond) (a16 : Word) (s : State) : State := if condHolds s.flags cond then callOp a16 s else s.advance 3

/-- `RET` and its alias byte (R184, R189). -/
def retOp (s : State) : State := returnTo s

/-- The conditional returns (R185). -/
def returnIfOp (cond : Cond) (s : State) : State := if condHolds s.flags cond then returnTo s else s.advance 1

/-- `RST n` (R186): a call to `8 * n`. -/
def rstOp (n : Nat) (s : State) : State := callTo (BitVec.ofNat 16 (8 * n)) (s.pc + 1) s

/-! ## One meaning for each opcode of the family -/

/-- `RNZ` (R185). -/
def execRnz (s : State) : Host.Outcome State Fault Refusal := .next (returnIfOp .nz s)

/-- `JNZ a16` (R181). -/
def execJnz (a16 : Word) (s : State) : Host.Outcome State Fault Refusal := .next (jumpIfOp .nz a16 s)

/-- `JMP a16` (R180). -/
def execJmp (a16 : Word) (s : State) : Host.Outcome State Fault Refusal := .next (jmpOp a16 s)

/-- `CNZ a16` (R183). -/
def execCnz (a16 : Word) (s : State) : Host.Outcome State Fault Refusal := .next (callIfOp .nz a16 s)

/-- `RST 0` (R186). -/
def execRst0 (s : State) : Host.Outcome State Fault Refusal := .next (rstOp 0 s)

/-- `RZ` (R185). -/
def execRz (s : State) : Host.Outcome State Fault Refusal := .next (returnIfOp .z s)

/-- `RET` (R184). -/
def execRet (s : State) : Host.Outcome State Fault Refusal := .next (retOp s)

/-- `JZ a16` (R181). -/
def execJz (a16 : Word) (s : State) : Host.Outcome State Fault Refusal := .next (jumpIfOp .z a16 s)

/-- Alias byte, executes exactly as `JMP a16` (R188). -/
def execJmpCB (a16 : Word) (s : State) : Host.Outcome State Fault Refusal := .next (jmpOp a16 s)

/-- `CZ a16` (R183). -/
def execCz (a16 : Word) (s : State) : Host.Outcome State Fault Refusal := .next (callIfOp .z a16 s)

/-- `CALL a16` (R182). -/
def execCall (a16 : Word) (s : State) : Host.Outcome State Fault Refusal := .next (callOp a16 s)

/-- `RST 1` (R186). -/
def execRst1 (s : State) : Host.Outcome State Fault Refusal := .next (rstOp 1 s)

/-- `RNC` (R185). -/
def execRnc (s : State) : Host.Outcome State Fault Refusal := .next (returnIfOp .nc s)

/-- `JNC a16` (R181). -/
def execJnc (a16 : Word) (s : State) : Host.Outcome State Fault Refusal := .next (jumpIfOp .nc a16 s)

/-- `CNC a16` (R183). -/
def execCnc (a16 : Word) (s : State) : Host.Outcome State Fault Refusal := .next (callIfOp .nc a16 s)

/-- `RST 2` (R186). -/
def execRst2 (s : State) : Host.Outcome State Fault Refusal := .next (rstOp 2 s)

/-- `RC` (R185). -/
def execRc (s : State) : Host.Outcome State Fault Refusal := .next (returnIfOp .c s)

/-- Alias byte, executes exactly as `RET` (R189). -/
def execRetD9 (s : State) : Host.Outcome State Fault Refusal := .next (retOp s)

/-- `JC a16` (R181). -/
def execJc (a16 : Word) (s : State) : Host.Outcome State Fault Refusal := .next (jumpIfOp .c a16 s)

/-- `CC a16` (R183). -/
def execCc (a16 : Word) (s : State) : Host.Outcome State Fault Refusal := .next (callIfOp .c a16 s)

/-- Alias byte, executes exactly as `CALL a16` (R190). -/
def execCallDD (a16 : Word) (s : State) : Host.Outcome State Fault Refusal := .next (callOp a16 s)

/-- `RST 3` (R186). -/
def execRst3 (s : State) : Host.Outcome State Fault Refusal := .next (rstOp 3 s)

/-- `RPO` (R185). -/
def execRpo (s : State) : Host.Outcome State Fault Refusal := .next (returnIfOp .po s)

/-- `JPO a16` (R181). -/
def execJpo (a16 : Word) (s : State) : Host.Outcome State Fault Refusal := .next (jumpIfOp .po a16 s)

/-- `CPO a16` (R183). -/
def execCpo (a16 : Word) (s : State) : Host.Outcome State Fault Refusal := .next (callIfOp .po a16 s)

/-- `RST 4` (R186). -/
def execRst4 (s : State) : Host.Outcome State Fault Refusal := .next (rstOp 4 s)

/-- `RPE` (R185). -/
def execRpe (s : State) : Host.Outcome State Fault Refusal := .next (returnIfOp .pe s)

/-- `PCHL` (R187). -/
def execPchl (s : State) : Host.Outcome State Fault Refusal := .next (pchlOp s)

/-- `JPE a16` (R181). -/
def execJpe (a16 : Word) (s : State) : Host.Outcome State Fault Refusal := .next (jumpIfOp .pe a16 s)

/-- `CPE a16` (R183). -/
def execCpe (a16 : Word) (s : State) : Host.Outcome State Fault Refusal := .next (callIfOp .pe a16 s)

/-- Alias byte, executes exactly as `CALL a16` (R190). -/
def execCallED (a16 : Word) (s : State) : Host.Outcome State Fault Refusal := .next (callOp a16 s)

/-- `RST 5` (R186). -/
def execRst5 (s : State) : Host.Outcome State Fault Refusal := .next (rstOp 5 s)

/-- `RP` (R185). -/
def execRp (s : State) : Host.Outcome State Fault Refusal := .next (returnIfOp .p s)

/-- `JP a16` (R181). -/
def execJp (a16 : Word) (s : State) : Host.Outcome State Fault Refusal := .next (jumpIfOp .p a16 s)

/-- `CP a16` (R183). -/
def execCp (a16 : Word) (s : State) : Host.Outcome State Fault Refusal := .next (callIfOp .p a16 s)

/-- `RST 6` (R186). -/
def execRst6 (s : State) : Host.Outcome State Fault Refusal := .next (rstOp 6 s)

/-- `RM` (R185). -/
def execRm (s : State) : Host.Outcome State Fault Refusal := .next (returnIfOp .m s)

/-- `JM a16` (R181). -/
def execJm (a16 : Word) (s : State) : Host.Outcome State Fault Refusal := .next (jumpIfOp .m a16 s)

/-- `CM a16` (R183). -/
def execCm (a16 : Word) (s : State) : Host.Outcome State Fault Refusal := .next (callIfOp .m a16 s)

/-- Alias byte, executes exactly as `CALL a16` (R190). -/
def execCallFD (a16 : Word) (s : State) : Host.Outcome State Fault Refusal := .next (callOp a16 s)

/-- `RST 7` (R186). -/
def execRst7 (s : State) : Host.Outcome State Fault Refusal := .next (rstOp 7 s)

end Sys2Proof.Machine
end

