-- ==== Sys2Proof/Machine/DataTransfer.lean ====
section
/-! DEFINITION. Data transfer: `MOV MVI LXI LDA STA LHLD SHLD LDAX STAX XCHG`. None of them touches a flag. -/

namespace Sys2Proof.Machine

/-- `MOV` (R100, R101, R102). The address of `M` is taken from the old `HL`. -/
def movOp (dst src : Operand) (s : State) : State := (s.writeOperand dst (s.readOperand src)).advance 1

/-- `MVI` (R103, R104). -/
def mviOp (dst : Operand) (d8 : Byte) (s : State) : State := (s.writeOperand dst d8).advance 2

/-- `LXI` (R105). -/
def lxiOp (p : Pair) (d16 : Word) (s : State) : State := (s.writePair p d16).advance 3

/-- `LDA` (R106). -/
def ldaOp (a16 : Word) (s : State) : State := (s.setA (s.readByte a16)).advance 3

/-- `STA` (R107). -/
def staOp (a16 : Word) (s : State) : State := (s.writeByte a16 s.regs.a).advance 3

/-- `LHLD` (R108). -/
def lhldOp (a16 : Word) (s : State) : State := (s.setRegs (s.regs.setHL (s.readWord a16))).advance 3

/-- `SHLD` (R109). -/
def shldOp (a16 : Word) (s : State) : State := (s.writeWord a16 s.hl).advance 3

/-- `LDAX` (R110). -/
def ldaxOp (p : BasePair) (s : State) : State := (s.setA (s.readByte (s.baseAddress p))).advance 1

/-- `STAX` (R111). -/
def staxOp (p : BasePair) (s : State) : State := (s.writeByte (s.baseAddress p) s.regs.a).advance 1

/-- `XCHG` (R112). -/
def xchgOp (s : State) : State := (s.setRegs ((s.regs.setHL s.regs.de).setDE s.regs.hl)).advance 1

/-! ## One meaning for each opcode of the family -/

/-- `LXI B,d16` (R105). -/
def execLxiB (d16 : Word) (s : State) : Host.Outcome State Fault Refusal := .next (lxiOp .b d16 s)

/-- `STAX B` (R111). -/
def execStaxB (s : State) : Host.Outcome State Fault Refusal := .next (staxOp .b s)

/-- `MVI B,d8` (R103). -/
def execMviB (d8 : Byte) (s : State) : Host.Outcome State Fault Refusal := .next (mviOp (.reg .b) d8 s)

/-- `LDAX B` (R110). -/
def execLdaxB (s : State) : Host.Outcome State Fault Refusal := .next (ldaxOp .b s)

/-- `MVI C,d8` (R103). -/
def execMviC (d8 : Byte) (s : State) : Host.Outcome State Fault Refusal := .next (mviOp (.reg .c) d8 s)

/-- `LXI D,d16` (R105). -/
def execLxiD (d16 : Word) (s : State) : Host.Outcome State Fault Refusal := .next (lxiOp .d d16 s)

/-- `STAX D` (R111). -/
def execStaxD (s : State) : Host.Outcome State Fault Refusal := .next (staxOp .d s)

/-- `MVI D,d8` (R103). -/
def execMviD (d8 : Byte) (s : State) : Host.Outcome State Fault Refusal := .next (mviOp (.reg .d) d8 s)

/-- `LDAX D` (R110). -/
def execLdaxD (s : State) : Host.Outcome State Fault Refusal := .next (ldaxOp .d s)

/-- `MVI E,d8` (R103). -/
def execMviE (d8 : Byte) (s : State) : Host.Outcome State Fault Refusal := .next (mviOp (.reg .e) d8 s)

/-- `LXI H,d16` (R105). -/
def execLxiH (d16 : Word) (s : State) : Host.Outcome State Fault Refusal := .next (lxiOp .h d16 s)

/-- `SHLD a16` (R109). -/
def execShld (a16 : Word) (s : State) : Host.Outcome State Fault Refusal := .next (shldOp a16 s)

/-- `MVI H,d8` (R103). -/
def execMviH (d8 : Byte) (s : State) : Host.Outcome State Fault Refusal := .next (mviOp (.reg .h) d8 s)

/-- `LHLD a16` (R108). -/
def execLhld (a16 : Word) (s : State) : Host.Outcome State Fault Refusal := .next (lhldOp a16 s)

/-- `MVI L,d8` (R103). -/
def execMviL (d8 : Byte) (s : State) : Host.Outcome State Fault Refusal := .next (mviOp (.reg .l) d8 s)

/-- `LXI SP,d16` (R105). -/
def execLxiSp (d16 : Word) (s : State) : Host.Outcome State Fault Refusal := .next (lxiOp .sp d16 s)

/-- `STA a16` (R107). -/
def execSta (a16 : Word) (s : State) : Host.Outcome State Fault Refusal := .next (staOp a16 s)

/-- `MVI M,d8` (R104). -/
def execMviM (d8 : Byte) (s : State) : Host.Outcome State Fault Refusal := .next (mviOp .m d8 s)

/-- `LDA a16` (R106). -/
def execLda (a16 : Word) (s : State) : Host.Outcome State Fault Refusal := .next (ldaOp a16 s)

/-- `MVI A,d8` (R103). -/
def execMviA (d8 : Byte) (s : State) : Host.Outcome State Fault Refusal := .next (mviOp (.reg .a) d8 s)

/-- `MOV B,B` (R100). -/
def execMovBB (s : State) : Host.Outcome State Fault Refusal := .next (movOp (.reg .b) (.reg .b) s)

/-- `MOV B,C` (R100). -/
def execMovBC (s : State) : Host.Outcome State Fault Refusal := .next (movOp (.reg .b) (.reg .c) s)

/-- `MOV B,D` (R100). -/
def execMovBD (s : State) : Host.Outcome State Fault Refusal := .next (movOp (.reg .b) (.reg .d) s)

/-- `MOV B,E` (R100). -/
def execMovBE (s : State) : Host.Outcome State Fault Refusal := .next (movOp (.reg .b) (.reg .e) s)

/-- `MOV B,H` (R100). -/
def execMovBH (s : State) : Host.Outcome State Fault Refusal := .next (movOp (.reg .b) (.reg .h) s)

/-- `MOV B,L` (R100). -/
def execMovBL (s : State) : Host.Outcome State Fault Refusal := .next (movOp (.reg .b) (.reg .l) s)

/-- `MOV B,M` (R101). -/
def execMovBM (s : State) : Host.Outcome State Fault Refusal := .next (movOp (.reg .b) .m s)

/-- `MOV B,A` (R100). -/
def execMovBA (s : State) : Host.Outcome State Fault Refusal := .next (movOp (.reg .b) (.reg .a) s)

/-- `MOV C,B` (R100). -/
def execMovCB (s : State) : Host.Outcome State Fault Refusal := .next (movOp (.reg .c) (.reg .b) s)

/-- `MOV C,C` (R100). -/
def execMovCC (s : State) : Host.Outcome State Fault Refusal := .next (movOp (.reg .c) (.reg .c) s)

/-- `MOV C,D` (R100). -/
def execMovCD (s : State) : Host.Outcome State Fault Refusal := .next (movOp (.reg .c) (.reg .d) s)

/-- `MOV C,E` (R100). -/
def execMovCE (s : State) : Host.Outcome State Fault Refusal := .next (movOp (.reg .c) (.reg .e) s)

/-- `MOV C,H` (R100). -/
def execMovCH (s : State) : Host.Outcome State Fault Refusal := .next (movOp (.reg .c) (.reg .h) s)

/-- `MOV C,L` (R100). -/
def execMovCL (s : State) : Host.Outcome State Fault Refusal := .next (movOp (.reg .c) (.reg .l) s)

/-- `MOV C,M` (R101). -/
def execMovCM (s : State) : Host.Outcome State Fault Refusal := .next (movOp (.reg .c) .m s)

/-- `MOV C,A` (R100). -/
def execMovCA (s : State) : Host.Outcome State Fault Refusal := .next (movOp (.reg .c) (.reg .a) s)

/-- `MOV D,B` (R100). -/
def execMovDB (s : State) : Host.Outcome State Fault Refusal := .next (movOp (.reg .d) (.reg .b) s)

/-- `MOV D,C` (R100). -/
def execMovDC (s : State) : Host.Outcome State Fault Refusal := .next (movOp (.reg .d) (.reg .c) s)

/-- `MOV D,D` (R100). -/
def execMovDD (s : State) : Host.Outcome State Fault Refusal := .next (movOp (.reg .d) (.reg .d) s)

/-- `MOV D,E` (R100). -/
def execMovDE (s : State) : Host.Outcome State Fault Refusal := .next (movOp (.reg .d) (.reg .e) s)

/-- `MOV D,H` (R100). -/
def execMovDH (s : State) : Host.Outcome State Fault Refusal := .next (movOp (.reg .d) (.reg .h) s)

/-- `MOV D,L` (R100). -/
def execMovDL (s : State) : Host.Outcome State Fault Refusal := .next (movOp (.reg .d) (.reg .l) s)

/-- `MOV D,M` (R101). -/
def execMovDM (s : State) : Host.Outcome State Fault Refusal := .next (movOp (.reg .d) .m s)

/-- `MOV D,A` (R100). -/
def execMovDA (s : State) : Host.Outcome State Fault Refusal := .next (movOp (.reg .d) (.reg .a) s)

/-- `MOV E,B` (R100). -/
def execMovEB (s : State) : Host.Outcome State Fault Refusal := .next (movOp (.reg .e) (.reg .b) s)

/-- `MOV E,C` (R100). -/
def execMovEC (s : State) : Host.Outcome State Fault Refusal := .next (movOp (.reg .e) (.reg .c) s)

/-- `MOV E,D` (R100). -/
def execMovED (s : State) : Host.Outcome State Fault Refusal := .next (movOp (.reg .e) (.reg .d) s)

/-- `MOV E,E` (R100). -/
def execMovEE (s : State) : Host.Outcome State Fault Refusal := .next (movOp (.reg .e) (.reg .e) s)

/-- `MOV E,H` (R100). -/
def execMovEH (s : State) : Host.Outcome State Fault Refusal := .next (movOp (.reg .e) (.reg .h) s)

/-- `MOV E,L` (R100). -/
def execMovEL (s : State) : Host.Outcome State Fault Refusal := .next (movOp (.reg .e) (.reg .l) s)

/-- `MOV E,M` (R101). -/
def execMovEM (s : State) : Host.Outcome State Fault Refusal := .next (movOp (.reg .e) .m s)

/-- `MOV E,A` (R100). -/
def execMovEA (s : State) : Host.Outcome State Fault Refusal := .next (movOp (.reg .e) (.reg .a) s)

/-- `MOV H,B` (R100). -/
def execMovHB (s : State) : Host.Outcome State Fault Refusal := .next (movOp (.reg .h) (.reg .b) s)

/-- `MOV H,C` (R100). -/
def execMovHC (s : State) : Host.Outcome State Fault Refusal := .next (movOp (.reg .h) (.reg .c) s)

/-- `MOV H,D` (R100). -/
def execMovHD (s : State) : Host.Outcome State Fault Refusal := .next (movOp (.reg .h) (.reg .d) s)

/-- `MOV H,E` (R100). -/
def execMovHE (s : State) : Host.Outcome State Fault Refusal := .next (movOp (.reg .h) (.reg .e) s)

/-- `MOV H,H` (R100). -/
def execMovHH (s : State) : Host.Outcome State Fault Refusal := .next (movOp (.reg .h) (.reg .h) s)

/-- `MOV H,L` (R100). -/
def execMovHL (s : State) : Host.Outcome State Fault Refusal := .next (movOp (.reg .h) (.reg .l) s)

/-- `MOV H,M` (R101). -/
def execMovHM (s : State) : Host.Outcome State Fault Refusal := .next (movOp (.reg .h) .m s)

/-- `MOV H,A` (R100). -/
def execMovHA (s : State) : Host.Outcome State Fault Refusal := .next (movOp (.reg .h) (.reg .a) s)

/-- `MOV L,B` (R100). -/
def execMovLB (s : State) : Host.Outcome State Fault Refusal := .next (movOp (.reg .l) (.reg .b) s)

/-- `MOV L,C` (R100). -/
def execMovLC (s : State) : Host.Outcome State Fault Refusal := .next (movOp (.reg .l) (.reg .c) s)

/-- `MOV L,D` (R100). -/
def execMovLD (s : State) : Host.Outcome State Fault Refusal := .next (movOp (.reg .l) (.reg .d) s)

/-- `MOV L,E` (R100). -/
def execMovLE (s : State) : Host.Outcome State Fault Refusal := .next (movOp (.reg .l) (.reg .e) s)

/-- `MOV L,H` (R100). -/
def execMovLH (s : State) : Host.Outcome State Fault Refusal := .next (movOp (.reg .l) (.reg .h) s)

/-- `MOV L,L` (R100). -/
def execMovLL (s : State) : Host.Outcome State Fault Refusal := .next (movOp (.reg .l) (.reg .l) s)

/-- `MOV L,M` (R101). -/
def execMovLM (s : State) : Host.Outcome State Fault Refusal := .next (movOp (.reg .l) .m s)

/-- `MOV L,A` (R100). -/
def execMovLA (s : State) : Host.Outcome State Fault Refusal := .next (movOp (.reg .l) (.reg .a) s)

/-- `MOV M,B` (R102). -/
def execMovMB (s : State) : Host.Outcome State Fault Refusal := .next (movOp .m (.reg .b) s)

/-- `MOV M,C` (R102). -/
def execMovMC (s : State) : Host.Outcome State Fault Refusal := .next (movOp .m (.reg .c) s)

/-- `MOV M,D` (R102). -/
def execMovMD (s : State) : Host.Outcome State Fault Refusal := .next (movOp .m (.reg .d) s)

/-- `MOV M,E` (R102). -/
def execMovME (s : State) : Host.Outcome State Fault Refusal := .next (movOp .m (.reg .e) s)

/-- `MOV M,H` (R102). -/
def execMovMH (s : State) : Host.Outcome State Fault Refusal := .next (movOp .m (.reg .h) s)

/-- `MOV M,L` (R102). -/
def execMovML (s : State) : Host.Outcome State Fault Refusal := .next (movOp .m (.reg .l) s)

/-- `MOV M,A` (R102). -/
def execMovMA (s : State) : Host.Outcome State Fault Refusal := .next (movOp .m (.reg .a) s)

/-- `MOV A,B` (R100). -/
def execMovAB (s : State) : Host.Outcome State Fault Refusal := .next (movOp (.reg .a) (.reg .b) s)

/-- `MOV A,C` (R100). -/
def execMovAC (s : State) : Host.Outcome State Fault Refusal := .next (movOp (.reg .a) (.reg .c) s)

/-- `MOV A,D` (R100). -/
def execMovAD (s : State) : Host.Outcome State Fault Refusal := .next (movOp (.reg .a) (.reg .d) s)

/-- `MOV A,E` (R100). -/
def execMovAE (s : State) : Host.Outcome State Fault Refusal := .next (movOp (.reg .a) (.reg .e) s)

/-- `MOV A,H` (R100). -/
def execMovAH (s : State) : Host.Outcome State Fault Refusal := .next (movOp (.reg .a) (.reg .h) s)

/-- `MOV A,L` (R100). -/
def execMovAL (s : State) : Host.Outcome State Fault Refusal := .next (movOp (.reg .a) (.reg .l) s)

/-- `MOV A,M` (R101). -/
def execMovAM (s : State) : Host.Outcome State Fault Refusal := .next (movOp (.reg .a) .m s)

/-- `MOV A,A` (R100). -/
def execMovAA (s : State) : Host.Outcome State Fault Refusal := .next (movOp (.reg .a) (.reg .a) s)

/-- `XCHG` (R112). -/
def execXchg (s : State) : Host.Outcome State Fault Refusal := .next (xchgOp s)

end Sys2Proof.Machine
end

