-- ==== Sys2Proof/Machine/Logical.lean ====
section
/-! DEFINITION. Logic, compare, rotates, complement and carry: `ANA XRA ORA CMP` and their immediate forms,
`RLC RRC RAL RAR CMA CMC STC`. -/

namespace Sys2Proof.Machine

/-- `ANA` and `ANI` (R151, R152, R153). -/
def anaOp (v : Byte) (n : Nat) (s : State) : State := s.setResult (logic8 (s.regs.a &&& v)) n

/-- `XRA` and `XRI` (R154, R155, R156). -/
def xraOp (v : Byte) (n : Nat) (s : State) : State := s.setResult (logic8 (s.regs.a ^^^ v)) n

/-- `ORA` and `ORI` (R157, R158, R159). -/
def oraOp (v : Byte) (n : Nat) (s : State) : State := s.setResult (logic8 (s.regs.a ||| v)) n

/-- `CMP` and `CPI` (R160, R161, R162): a subtraction whose result is dropped. -/
def cmpOp (v : Byte) (n : Nat) (s : State) : State := (s.setFlags (sub8 s.regs.a v false).2).advance n

/-- The end of a rotate: the accumulator and the carry, no other flag (R88 (d)). -/
def State.setRotated (s : State) (r : Byte × Bool) : State := ((s.setA r.1).setCy r.2).advance 1

/-- `RLC` (R163). -/
def rlcOp (s : State) : State := s.setRotated (rotateLeft s.regs.a)

/-- `RRC` (R164). -/
def rrcOp (s : State) : State := s.setRotated (rotateRight s.regs.a)

/-- `RAL` (R165). -/
def ralOp (s : State) : State := s.setRotated (rotateLeftThroughCarry s.regs.a s.flags.cy)

/-- `RAR` (R166). -/
def rarOp (s : State) : State := s.setRotated (rotateRightThroughCarry s.regs.a s.flags.cy)

/-- `CMA` (R167): no flag changes. -/
def cmaOp (s : State) : State := (s.setA (~~~s.regs.a)).advance 1

/-- `CMC` (R168). -/
def cmcOp (s : State) : State := (s.setCy (!s.flags.cy)).advance 1

/-- `STC` (R169). -/
def stcOp (s : State) : State := (s.setCy true).advance 1

/-! ## One meaning for each opcode of the family -/

/-- `RLC` (R163). -/
def execRlc (s : State) : Host.Outcome State Fault Refusal := .next (rlcOp s)

/-- `RRC` (R164). -/
def execRrc (s : State) : Host.Outcome State Fault Refusal := .next (rrcOp s)

/-- `RAL` (R165). -/
def execRal (s : State) : Host.Outcome State Fault Refusal := .next (ralOp s)

/-- `RAR` (R166). -/
def execRar (s : State) : Host.Outcome State Fault Refusal := .next (rarOp s)

/-- `CMA` (R167). -/
def execCma (s : State) : Host.Outcome State Fault Refusal := .next (cmaOp s)

/-- `STC` (R169). -/
def execStc (s : State) : Host.Outcome State Fault Refusal := .next (stcOp s)

/-- `CMC` (R168). -/
def execCmc (s : State) : Host.Outcome State Fault Refusal := .next (cmcOp s)

/-- `ANA B` (R151). -/
def execAnaB (s : State) : Host.Outcome State Fault Refusal := .next (anaOp (s.readOperand (.reg .b)) 1 s)

/-- `ANA C` (R151). -/
def execAnaC (s : State) : Host.Outcome State Fault Refusal := .next (anaOp (s.readOperand (.reg .c)) 1 s)

/-- `ANA D` (R151). -/
def execAnaD (s : State) : Host.Outcome State Fault Refusal := .next (anaOp (s.readOperand (.reg .d)) 1 s)

/-- `ANA E` (R151). -/
def execAnaE (s : State) : Host.Outcome State Fault Refusal := .next (anaOp (s.readOperand (.reg .e)) 1 s)

/-- `ANA H` (R151). -/
def execAnaH (s : State) : Host.Outcome State Fault Refusal := .next (anaOp (s.readOperand (.reg .h)) 1 s)

/-- `ANA L` (R151). -/
def execAnaL (s : State) : Host.Outcome State Fault Refusal := .next (anaOp (s.readOperand (.reg .l)) 1 s)

/-- `ANA M` (R152). -/
def execAnaM (s : State) : Host.Outcome State Fault Refusal := .next (anaOp (s.readOperand .m) 1 s)

/-- `ANA A` (R151). -/
def execAnaA (s : State) : Host.Outcome State Fault Refusal := .next (anaOp (s.readOperand (.reg .a)) 1 s)

/-- `XRA B` (R154). -/
def execXraB (s : State) : Host.Outcome State Fault Refusal := .next (xraOp (s.readOperand (.reg .b)) 1 s)

/-- `XRA C` (R154). -/
def execXraC (s : State) : Host.Outcome State Fault Refusal := .next (xraOp (s.readOperand (.reg .c)) 1 s)

/-- `XRA D` (R154). -/
def execXraD (s : State) : Host.Outcome State Fault Refusal := .next (xraOp (s.readOperand (.reg .d)) 1 s)

/-- `XRA E` (R154). -/
def execXraE (s : State) : Host.Outcome State Fault Refusal := .next (xraOp (s.readOperand (.reg .e)) 1 s)

/-- `XRA H` (R154). -/
def execXraH (s : State) : Host.Outcome State Fault Refusal := .next (xraOp (s.readOperand (.reg .h)) 1 s)

/-- `XRA L` (R154). -/
def execXraL (s : State) : Host.Outcome State Fault Refusal := .next (xraOp (s.readOperand (.reg .l)) 1 s)

/-- `XRA M` (R155). -/
def execXraM (s : State) : Host.Outcome State Fault Refusal := .next (xraOp (s.readOperand .m) 1 s)

/-- `XRA A` (R154). -/
def execXraA (s : State) : Host.Outcome State Fault Refusal := .next (xraOp (s.readOperand (.reg .a)) 1 s)

/-- `ORA B` (R157). -/
def execOraB (s : State) : Host.Outcome State Fault Refusal := .next (oraOp (s.readOperand (.reg .b)) 1 s)

/-- `ORA C` (R157). -/
def execOraC (s : State) : Host.Outcome State Fault Refusal := .next (oraOp (s.readOperand (.reg .c)) 1 s)

/-- `ORA D` (R157). -/
def execOraD (s : State) : Host.Outcome State Fault Refusal := .next (oraOp (s.readOperand (.reg .d)) 1 s)

/-- `ORA E` (R157). -/
def execOraE (s : State) : Host.Outcome State Fault Refusal := .next (oraOp (s.readOperand (.reg .e)) 1 s)

/-- `ORA H` (R157). -/
def execOraH (s : State) : Host.Outcome State Fault Refusal := .next (oraOp (s.readOperand (.reg .h)) 1 s)

/-- `ORA L` (R157). -/
def execOraL (s : State) : Host.Outcome State Fault Refusal := .next (oraOp (s.readOperand (.reg .l)) 1 s)

/-- `ORA M` (R158). -/
def execOraM (s : State) : Host.Outcome State Fault Refusal := .next (oraOp (s.readOperand .m) 1 s)

/-- `ORA A` (R157). -/
def execOraA (s : State) : Host.Outcome State Fault Refusal := .next (oraOp (s.readOperand (.reg .a)) 1 s)

/-- `CMP B` (R160). -/
def execCmpB (s : State) : Host.Outcome State Fault Refusal := .next (cmpOp (s.readOperand (.reg .b)) 1 s)

/-- `CMP C` (R160). -/
def execCmpC (s : State) : Host.Outcome State Fault Refusal := .next (cmpOp (s.readOperand (.reg .c)) 1 s)

/-- `CMP D` (R160). -/
def execCmpD (s : State) : Host.Outcome State Fault Refusal := .next (cmpOp (s.readOperand (.reg .d)) 1 s)

/-- `CMP E` (R160). -/
def execCmpE (s : State) : Host.Outcome State Fault Refusal := .next (cmpOp (s.readOperand (.reg .e)) 1 s)

/-- `CMP H` (R160). -/
def execCmpH (s : State) : Host.Outcome State Fault Refusal := .next (cmpOp (s.readOperand (.reg .h)) 1 s)

/-- `CMP L` (R160). -/
def execCmpL (s : State) : Host.Outcome State Fault Refusal := .next (cmpOp (s.readOperand (.reg .l)) 1 s)

/-- `CMP M` (R161). -/
def execCmpM (s : State) : Host.Outcome State Fault Refusal := .next (cmpOp (s.readOperand .m) 1 s)

/-- `CMP A` (R160). -/
def execCmpA (s : State) : Host.Outcome State Fault Refusal := .next (cmpOp (s.readOperand (.reg .a)) 1 s)

/-- `ANI d8` (R153). -/
def execAni (d8 : Byte) (s : State) : Host.Outcome State Fault Refusal := .next (anaOp d8 2 s)

/-- `XRI d8` (R156). -/
def execXri (d8 : Byte) (s : State) : Host.Outcome State Fault Refusal := .next (xraOp d8 2 s)

/-- `ORI d8` (R159). -/
def execOri (d8 : Byte) (s : State) : Host.Outcome State Fault Refusal := .next (oraOp d8 2 s)

/-- `CPI d8` (R162). -/
def execCpi (d8 : Byte) (s : State) : Host.Outcome State Fault Refusal := .next (cmpOp d8 2 s)

end Sys2Proof.Machine
end

