-- ==== Sys2Proof/Machine/PortBridge.lean ====
section
/-! DEFINITION. The I/O port bridge and its shift register: the port side of `IN` and `OUT` (R230). -/

namespace Sys2Proof.Machine

/-- `(shift1 << 8) | shift0` (R24). -/
def Bridge.combined (b : Bridge) : Word := mkWord b.shift1 b.shift0

/-- The window of the shift register that `IN 3` returns (R233): `(combined >> (8 - shift_offset)) & 0xFF`. -/
def Bridge.window (b : Bridge) : Byte := (b.combined >>> (8 - b.shiftOffset.toNat)).setWidth 8

/-- The input ports the spec gives a behaviour (R231 to R233). -/
def inputListed (port : Byte) : Bool := decide (port = 1 ∨ port = 2 ∨ port = 3)

/-- `PortIn(port)` (R231 to R233); for every other port the draw `InUnmapped` (R236). -/
def portIn (draw : Nat) (b : Bridge) (port : Byte) : Byte :=
  if port = 1 then b.port1
  else if port = 2 then b.port2
  else if port = 3 then b.window
  else Config.inUnmapped draw port

/-- How many draws have been made after an `IN` from a port: one more if the port is not listed. -/
def drawsAfter (draw : Nat) (port : Byte) : Nat := if inputListed port then draw else draw + 1

/-- `PortOut(port, v)` (R234, R235, R237, R238); every other port changes nothing (R239). -/
def portOut (b : Bridge) (port v : Byte) : Bridge :=
  if port = 2 then { b with shiftOffset := v.setWidth 3 }
  else if port = 3 then { b with outPort3Prev := b.outPort3, outPort3 := v }
  else if port = 4 then { b with shift0 := b.shift1, shift1 := v }
  else if port = 5 then { b with outPort5Prev := b.outPort5, outPort5 := v }
  else b

/-! ## The host's side of the latches (R240) -/

/-- The host writes input latch 1. -/
def Bridge.setPort1 (b : Bridge) (v : Byte) : Bridge := { b with port1 := v }

/-- The host writes input latch 2. -/
def Bridge.setPort2 (b : Bridge) (v : Byte) : Bridge := { b with port2 := v }

/-- What the host reads of the bridge: the output latches with their shadows, port 3's before port 5's. -/
def outputLatches (s : State) : List Byte :=
  [s.bridge.outPort3, s.bridge.outPort3Prev, s.bridge.outPort5, s.bridge.outPort5Prev]

end Sys2Proof.Machine
end

