-- ==== Sys2Proof/Machine/StackIo.lean ====
section
/-! DEFINITION. The stack, input and output, and machine control: `PUSH POP XTHL SPHL IN OUT EI DI HLT NOP`. -/

namespace Sys2Proof.Machine

/-- The word a `PUSH` stores (R200); for `PSW` the accumulator is the high byte and the packed flags the low byte (R201). -/
def State.readStackPair (s : State) : StackPair → Word
  | .b => s.regs.bc
  | .d => s.regs.de
  | .h => s.regs.hl
  | .psw => mkWord s.regs.a (packFlags s.flags)

/-- Where a `POP` puts the word it read (R202); for `PSW` the accumulator and all five flags (R203). -/
def State.writeStackPair (s : State) (p : StackPair) (v : Word) : State :=
  match p with
  | .b => s.setRegs (s.regs.setBC v)
  | .d => s.setRegs (s.regs.setDE v)
  | .h => s.setRegs (s.regs.setHL v)
  | .psw => (s.setA (hiByte v)).setFlags (unpackFlags (loByte v))

/-- `PUSH` (R200, R201). -/
def pushOp (p : StackPair) (s : State) : State := (push16 (s.readStackPair p) s).advance 1

/-- `POP` (R202, R203). -/
def popOp (p : StackPair) (s : State) : State := ((dropWord s).writeStackPair p (topWord s)).advance 1

/-- `XTHL` (R204): both reads precede both writes; `sp` stays. -/
def xthlOp (s : State) : State := ((s.writeWord s.sp s.hl).setRegs (s.regs.setHL (topWord s))).advance 1

/-- `SPHL` (R205). -/
def sphlOp (s : State) : State := (s.setSp s.hl).advance 1

/-- `IN` (R206): no port state changes (R241); a draw is used up if the port is not listed. -/
def inOp (port : Byte) (s : State) : State :=
  ((s.setA (portIn s.draws s.bridge port)).setDraws (drawsAfter s.draws port)).advance 2

/-- `OUT` (R207). -/
def outOp (port : Byte) (s : State) : State := (s.setBridge (portOut s.bridge port s.regs.a)).advance 2

/-- `EI` (R208): effective at once. -/
def eiOp (s : State) : State := (s.setIntEnable true).advance 1

/-- `DI` (R209). -/
def diOp (s : State) : State := (s.setIntEnable false).advance 1

/-- `HLT` (R210): `pc` still advances. -/
def hltOp (s : State) : State := (s.setHalted true).advance 1

/-- `NOP` and its alias bytes (R211, R212). -/
def nopOp (s : State) : State := s.advance 1

/-! ## One meaning for each opcode of the family -/

/-- `NOP` (R211). -/
def execNop (s : State) : Host.Outcome State Fault Refusal := .next (nopOp s)

/-- Alias byte, executes exactly as `NOP` (R212). -/
def execNop08 (s : State) : Host.Outcome State Fault Refusal := .next (nopOp s)

/-- Alias byte, executes exactly as `NOP` (R212). -/
def execNop10 (s : State) : Host.Outcome State Fault Refusal := .next (nopOp s)

/-- Alias byte, executes exactly as `NOP` (R212). -/
def execNop18 (s : State) : Host.Outcome State Fault Refusal := .next (nopOp s)

/-- Alias byte, executes exactly as `NOP` (R212). -/
def execNop20 (s : State) : Host.Outcome State Fault Refusal := .next (nopOp s)

/-- Alias byte, executes exactly as `NOP` (R212). -/
def execNop28 (s : State) : Host.Outcome State Fault Refusal := .next (nopOp s)

/-- Alias byte, executes exactly as `NOP` (R212). -/
def execNop30 (s : State) : Host.Outcome State Fault Refusal := .next (nopOp s)

/-- Alias byte, executes exactly as `NOP` (R212). -/
def execNop38 (s : State) : Host.Outcome State Fault Refusal := .next (nopOp s)

/-- `HLT` (R210). -/
def execHlt (s : State) : Host.Outcome State Fault Refusal := .next (hltOp s)

/-- `POP B` (R202). -/
def execPopB (s : State) : Host.Outcome State Fault Refusal := .next (popOp .b s)

/-- `PUSH B` (R200). -/
def execPushB (s : State) : Host.Outcome State Fault Refusal := .next (pushOp .b s)

/-- `POP D` (R202). -/
def execPopD (s : State) : Host.Outcome State Fault Refusal := .next (popOp .d s)

/-- `OUT d8` (R207). -/
def execOutPort (port : Byte) (s : State) : Host.Outcome State Fault Refusal := .next (outOp port s)

/-- `PUSH D` (R200). -/
def execPushD (s : State) : Host.Outcome State Fault Refusal := .next (pushOp .d s)

/-- `IN d8` (R206). -/
def execInPort (port : Byte) (s : State) : Host.Outcome State Fault Refusal := .next (inOp port s)

/-- `POP H` (R202). -/
def execPopH (s : State) : Host.Outcome State Fault Refusal := .next (popOp .h s)

/-- `XTHL` (R204). -/
def execXthl (s : State) : Host.Outcome State Fault Refusal := .next (xthlOp s)

/-- `PUSH H` (R200). -/
def execPushH (s : State) : Host.Outcome State Fault Refusal := .next (pushOp .h s)

/-- `POP PSW` (R203). -/
def execPopPsw (s : State) : Host.Outcome State Fault Refusal := .next (popOp .psw s)

/-- `DI` (R209). -/
def execDi (s : State) : Host.Outcome State Fault Refusal := .next (diOp s)

/-- `PUSH PSW` (R201). -/
def execPushPsw (s : State) : Host.Outcome State Fault Refusal := .next (pushOp .psw s)

/-- `SPHL` (R205). -/
def execSphl (s : State) : Host.Outcome State Fault Refusal := .next (sphlOp s)

/-- `EI` (R208). -/
def execEi (s : State) : Host.Outcome State Fault Refusal := .next (eiOp s)

end Sys2Proof.Machine
end

