-- ==== Sys2Proof/Machine/Boundary.lean ====
section
/-! DEFINITION. One instruction from memory, and what each action of the host does at a boundary between steps. -/

namespace Sys2Proof.Machine

/-- The bytes at `pc`, `pc + 1` and `pc + 2`, modulo 2^16 (R49, R61). A read has no side effect (R44), so bytes the instruction
does not have may be read too. -/
def State.fetchBytes (s : State) : List Byte := [s.readByte s.pc, s.readByte (s.pc + 1), s.readByte (s.pc + 2)]

/-- The instruction at `pc` (R49, R283), read whole before anything is written (R54). -/
def fetchInstr (s : State) : Instr := decodeBytes (s.readByte s.pc) (s.readByte (s.pc + 1)) (s.readByte (s.pc + 2))

/-- One step (R283): the instruction at `pc` runs to completion. While halted a step changes nothing (R284). -/
def runInstr (s : State) : Host.Outcome State Fault Refusal := if s.halted then .next s else exec (fetchInstr s) s

/-- One action of the host (R286). -/
def perform (a : HostAction) (s : State) : Host.Outcome State Fault Refusal :=
  match a with
  | .step => runInstr s
  | .interrupt => .next (serviceInterrupt s)
  | .writePort1 v => .next (s.setBridge (s.bridge.setPort1 v))
  | .writePort2 v => .next (s.setBridge (s.bridge.setPort2 v))
  | .reset l => .next (launch l s)

/-- The coming transition: the next action of the schedule, taken off it; with none left, one step. -/
def transition (s : State) : Host.Outcome State Fault Refusal :=
  match s.schedule with
  | [] => runInstr s
  | a :: rest => perform a (s.setSchedule rest)

/-- Bytes placed in memory from `pc` on, and nothing in the way of fetching them: not halted, no action of the host first. -/
def State.placeAtPc (s : State) (bytes : List Byte) : State :=
  ((s.setMem (Memory.load s.mem s.pc bytes)).setHalted false).setSchedule []

end Sys2Proof.Machine
end

