-- ==== Sys2Proof/Machine/Step.lean ====
section
/-! DEFINITION. The step function, and where it fetches from. -/

namespace Sys2Proof.Machine

/-- One transition of the machine: an action the host's schedule holds, or the instruction at `pc`. -/
def step (s : State) : Host.Outcome State Fault Refusal := transition s

/-- The state whose next step fetches and runs the instruction with the given opcode-table bits. -/
def State.withFetchWord (s : State) (nbits w : Nat) : State := s.placeAtPc (tableWordBytes nbits w)

end Sys2Proof.Machine
end

