-- ==== Sys2Proof/Safety.lean ====
section
/-! DEFINITION. What the claims about runs are said in: the invariant of the state, the states a run can be said to end in, and
launch states. -/

namespace Sys2Proof.Machine

/-- What every reachable state satisfies beyond the ranges that the types already give (R27): memory is in canonical form. -/
def State.Inv (s : State) : Prop := Memory.wf s.mem = true

/-- Halted for good (R291 (a)): no step and no interrupt request changes anything, only reset leaves the state. -/
def State.haltedForGood (s : State) : Prop := s.halted = true ∧ s.intEnable = false

/-- Halted, waiting (R291 (b)): the next interrupt request resumes execution. -/
def State.haltedWaiting (s : State) : Prop := s.halted = true ∧ s.intEnable = true

/-- An action of the host that is not a reset. -/
def HostAction.isReset : HostAction → Bool
  | .step => false
  | .interrupt => false
  | .writePort1 _ => false
  | .writePort2 _ => false
  | .reset _ => true

/-- A legal state right after reset with an image loaded (R28, R280, R281): the fields the spec gives hold their values, the bytes
of the image stand from address 0 on, and everything else is arbitrary. -/
def State.isLaunch (image : List Byte) (s : State) : Prop :=
  s.pc = 0x0000 ∧ s.halted = false ∧ s.intEnable = false ∧ s.interruptNumber = .one ∧
    ∀ k v, image[k]? = some v → s.readByte (BitVec.ofNat 16 k) = v

end Sys2Proof.Machine
end

