-- ==== Sys2Proof/Certificates/Slice0/Obligations.lean ====
section
/-! DEFINITION. The statements about the machine, for the provers. Each says in its docstring which rule of the spec it
formalises. The words the statements share come first. -/

open Sys2Proof Sys2Proof.Machine

namespace Sys2Proof.Claims

/-! ## Field codes, as R64 to R66 list them -/

/-- The 3-bit register code (R64). -/
def operandCode : Operand → Nat
  | .reg .b => 0
  | .reg .c => 1
  | .reg .d => 2
  | .reg .e => 3
  | .reg .h => 4
  | .reg .l => 5
  | .m => 6
  | .reg .a => 7

/-- The pair code of `LXI INX DCX DAD` (R65). -/
def pairCode : Pair → Nat
  | .b => 0
  | .d => 1
  | .h => 2
  | .sp => 3

/-- The pair code of `PUSH POP` (R65). -/
def stackPairCode : StackPair → Nat
  | .b => 0
  | .d => 1
  | .h => 2
  | .psw => 3

/-- The pair bit of `LDAX STAX` (R62). -/
def basePairCode : BasePair → Nat
  | .b => 0
  | .d => 1

/-- The condition code (R66). -/
def condCode : Cond → Nat
  | .nz => 0
  | .z => 1
  | .nc => 2
  | .c => 3
  | .po => 4
  | .pe => 5
  | .p => 6
  | .m => 7

/-- The arithmetic selector (R67). -/
def aluCode : AluOp → Nat
  | .add => 0
  | .adc => 1
  | .sub => 2
  | .sbb => 3
  | .ana => 4
  | .xra => 5
  | .ora => 6
  | .cmp => 7

/-- An opcode byte from the value of its bits. -/
def byte (n : Nat) : Byte := BitVec.ofNat 8 n

/-! ## Flags, in the words of R80 to R82 -/

/-- `z`, `s` and `p` are those of the result `v`: zero if it is zero, its bit 7, even number of 1 bits. -/
def zspOf (v : Byte) (f : Flags) : Prop :=
  (f.z = true ↔ v.toNat = 0) ∧ (f.s = true ↔ 128 ≤ v.toNat) ∧
    (f.p = true ↔ ((List.range 8).countP fun k => v.toNat.testBit k) % 2 = 0)

/-- The carry flag as a number. -/
def carry (s : State) : Nat := if s.flags.cy then 1 else 0

/-- `t` is `s` after an addition of `v` and a carry-in to `A` by an instruction of `n` bytes (R120, R83, R86). -/
def added (s t : State) (v : Byte) (cin n : Nat) : Prop :=
  t.regs.a.toNat = (s.regs.a.toNat + v.toNat + cin) % 256 ∧
  (t.flags.cy = true ↔ 0xFF < s.regs.a.toNat + v.toNat + cin) ∧
  (t.flags.ac = true ↔ 0xF < s.regs.a.toNat % 16 + v.toNat % 16 + cin) ∧
  zspOf t.regs.a t.flags ∧
  t = { s with regs := { s.regs with a := t.regs.a }, flags := t.flags, pc := s.pc + BitVec.ofNat 16 n }

/-- `f` are the five flags of the difference `a - v - bin`, whose 8-bit value is `r` (R121, R84, R87). -/
def differenceFlags (a v : Byte) (bin : Nat) (r : Byte) (f : Flags) : Prop :=
  (r.toNat : Int) = ((a.toNat : Int) - v.toNat - bin) % 256 ∧
  (f.cy = true ↔ a.toNat < v.toNat + bin) ∧
  (f.ac = true ↔ a.toNat % 16 < v.toNat % 16 + bin) ∧
  zspOf r f

/-- `t` is `s` after a subtraction of `v` and a borrow-in from `A` by an instruction of `n` bytes (R121). -/
def subtracted (s t : State) (v : Byte) (bin n : Nat) : Prop :=
  differenceFlags s.regs.a v bin t.regs.a t.flags ∧
  t = { s with regs := { s.regs with a := t.regs.a }, flags := t.flags, pc := s.pc + BitVec.ofNat 16 n }

/-- `t` is `s` after a comparison of `A` with `v` by an instruction of `n` bytes: the flags of the subtraction, `A` unchanged
(R160). -/
def compared (s t : State) (v : Byte) (n : Nat) : Prop :=
  (∃ r, differenceFlags s.regs.a v 0 r t.flags) ∧ t = { s with flags := t.flags, pc := s.pc + BitVec.ofNat 16 n }

/-- `t` is `s` after a bitwise operation with result `r` in `A` by an instruction of `n` bytes (R150, R85). -/
def logical (s t : State) (r : Byte) (n : Nat) : Prop :=
  t.flags.cy = false ∧ t.flags.ac = false ∧ zspOf r t.flags ∧
  t = { s with regs := { s.regs with a := r }, flags := t.flags, pc := s.pc + BitVec.ofNat 16 n }

/-- The bytes `t` reads are those `s` reads, but for `v` at one address. -/
def storesByte (s t : State) (addr : Word) (v : Byte) : Prop :=
  ∀ x, t.readByte x = if x = addr then v else s.readByte x

/-- The bytes `t` reads are those `s` reads, but for `low` at `addr` and `high` at `addr + 1`, modulo 2^16. -/
def storesWord (s t : State) (addr : Word) (high low : Byte) : Prop :=
  ∀ x, t.readByte x = if x = addr then low else if x = addr + 1 then high else s.readByte x

/-- The condition a code stands for (R66, R92). -/
def condTrue (f : Flags) : Cond → Prop
  | .nz => f.z = false
  | .z => f.z = true
  | .nc => f.cy = false
  | .c => f.cy = true
  | .po => f.p = false
  | .pe => f.p = true
  | .p => f.s = false
  | .m => f.s = true

/-- `t` is `s` after the push of `ret` and control to `target`: the high byte at `sp - 1`, the low byte at `sp - 2`, `sp` lower
by 2 (R13, R182). -/
def called (s t : State) (target ret : Word) : Prop :=
  t = { s with mem := t.mem, sp := s.sp - 2, pc := target } ∧
    storesWord s t (s.sp - 2) (BitVec.ofNat 8 (ret.toNat / 256)) (BitVec.ofNat 8 (ret.toNat % 256))

/-- `t` is `s` after the pop of a word into `pc`: low byte at `sp`, high byte at `sp + 1`, `sp` higher by 2 (R13, R184). -/
def returned (s t : State) : Prop :=
  t.pc.toNat = (s.readByte (s.sp + 1)).toNat * 256 + (s.readByte s.sp).toNat ∧
    t = { s with pc := t.pc, sp := s.sp + 2 }

/-- The byte the launch values give an address outside the image: the last one listed for it. For an address they do not list it
is what an unlisted byte reads as, the model's choice (log entries 3 and 6). -/
def launchByte (l : Launch) (addr : Word) : Byte := (l.mem.reverse.lookup addr).getD Config.unlistedByte

/-- One instruction executed `n` times in a row. -/
def repeated (i : Instr) : Nat → State → Host.Outcome State Fault Refusal
  | 0, s => .next s
  | n + 1, s =>
    match exec i s with
    | .next u => repeated i n u
    | .fault r => .fault r
    | .refused r => .refused r

/-! ## The tables that speak of all instructions -/

/-- The instructions that transfer control (R15). -/
def transfersControl (i : Instr) : Bool :=
  match fieldX i.opcode, fieldZ i.opcode with
  | 3, 0 => true
  | 3, 2 => true
  | 3, 4 => true
  | 3, 7 => true
  | _, _ => [0xC3, 0xCB, 0xC9, 0xD9, 0xCD, 0xDD, 0xED, 0xFD, 0xE9].contains i.opcode

/-- Does the instruction write the flag? The table of R17, by opcode byte; the columns are `z s p cy ac`. -/
def flagsWritten (i : Instr) : Bool × Bool × Bool × Bool × Bool :=
  let op := i.opcode
  if fieldX op = 2 ∨ (fieldX op = 3 ∧ fieldZ op = 6) then (true, true, true, true, true)
  else if fieldX op = 0 ∧ (fieldZ op = 4 ∨ fieldZ op = 5) then (true, true, true, false, true)
  else if [0x07, 0x0F, 0x17, 0x1F, 0x09, 0x19, 0x29, 0x39, 0x37, 0x3F].contains op then (false, false, false, true, false)
  else if [0x27, 0xF1].contains op then (true, true, true, true, true)
  else (false, false, false, false, false)

/-- The addresses an instruction stores to, computed in the state it starts in: the pushed word's bytes for pushes, restarts and
the calls that are taken, the byte at `HL` for `MOV M`, `MVI M`, `INR M`, `DCR M`, and so on. -/
def storeAddresses (s : State) (i : Instr) : List Word :=
  let pushed := [s.sp - 1, s.sp - 2]
  match i with
  | .movMB | .movMC | .movMD | .movME | .movMH | .movML | .movMA | .mviM _ | .inrM | .dcrM => [s.hl]
  | .sta a16 => [a16]
  | .shld a16 => [a16, a16 + 1]
  | .staxB => [s.regs.bc]
  | .staxD => [s.regs.de]
  | .xthl => [s.sp, s.sp + 1]
  | .pushB | .pushD | .pushH | .pushPsw => pushed
  | .rst0 | .rst1 | .rst2 | .rst3 | .rst4 | .rst5 | .rst6 | .rst7 => pushed
  | .call _ | .callDD _ | .callED _ | .callFD _ => pushed
  | .cnz _ => if condHolds s.flags .nz then pushed else []
  | .cz _ => if condHolds s.flags .z then pushed else []
  | .cnc _ => if condHolds s.flags .nc then pushed else []
  | .cc _ => if condHolds s.flags .c then pushed else []
  | .cpo _ => if condHolds s.flags .po then pushed else []
  | .cpe _ => if condHolds s.flags .pe then pushed else []
  | .cp _ => if condHolds s.flags .p then pushed else []
  | .cm _ => if condHolds s.flags .m then pushed else []
  | _ => []

/-- The instructions that write `sp` (R13): `LXI SP`, `SPHL`, `INX SP`, `DCX SP`, every push and pop, every call, return and
restart. -/
def writesSp (i : Instr) : Bool :=
  match i with
  | .lxiSp _ | .sphl | .inxSp | .dcxSp => true
  | .pushB | .pushD | .pushH | .pushPsw | .popB | .popD | .popH | .popPsw => true
  | .call _ | .callDD _ | .callED _ | .callFD _ => true
  | .cnz _ | .cz _ | .cnc _ | .cc _ | .cpo _ | .cpe _ | .cp _ | .cm _ => true
  | .ret | .retD9 | .rnz | .rz | .rnc | .rc | .rpo | .rpe | .rp | .rm => true
  | .rst0 | .rst1 | .rst2 | .rst3 | .rst4 | .rst5 | .rst6 | .rst7 => true
  | _ => false

end Sys2Proof.Claims

open Sys2Proof.Claims

/-! ## Encoding -/

/-- Decoding the bytes of an instruction gives it back, every operand at every value, whatever follows. It says no bit is
dropped; `FieldPatterns` and `WordsOfTheSpec` say which bits. -/
def Obligations.DecodeEncodeAgree : Prop :=
  ∀ (i : Instr) (rest : List Byte), i.wf = true → decode (encode i ++ rest) = .ok (i, rest)

/-- Bytes that decode are the bytes of what they decode to: each byte string has one meaning, the alias bytes included. -/
def Obligations.EncodeDecodeAgree : Prop :=
  ∀ (bytes rest : List Byte) (i : Instr), decode bytes = .ok (i, rest) → encode i ++ rest = bytes

/-- R70, and the lengths of R60: every byte value followed by enough bytes decodes, to an instruction with that opcode byte, and
the opcode byte alone says whether it is 1, 2 or 3 bytes. -/
def Obligations.EveryOpcodeByteDecodes : Prop :=
  ∀ (op b1 b2 : Byte) (rest : List Byte), ∃ i : Instr,
    decode (op :: b1 :: b2 :: rest) = .ok (i, (b1 :: b2 :: rest).drop (i.length - 1)) ∧ i.opcode = op ∧
    i.length =
      (if [0x01, 0x11, 0x21, 0x31, 0x22, 0x2A, 0x32, 0x3A, 0xC3, 0xCB, 0xC2, 0xCA, 0xD2, 0xDA, 0xE2, 0xEA, 0xF2, 0xFA,
          0xCD, 0xDD, 0xED, 0xFD, 0xC4, 0xCC, 0xD4, 0xDC, 0xE4, 0xEC, 0xF4, 0xFC].contains op then 3
      else if [0x06, 0x0E, 0x16, 0x1E, 0x26, 0x2E, 0x36, 0x3E, 0xC6, 0xCE, 0xD6, 0xDE, 0xE6, 0xEE, 0xF6, 0xFE,
          0xD3, 0xDB].contains op then 2
      else 1)

/-- The pattern table of R62 with the codes of R64 to R67: the bytes of each instruction with fields, from its fields. -/
def Obligations.FieldPatterns : Prop :=
  ∀ (x y : Operand) (p : Pair) (q : StackPair) (r : BasePair) (cond : Cond) (op : AluOp) (v : Byte) (w : Word) (n : Nat),
    (¬(x = .m ∧ y = .m) → encode (movInstr x y) = [byte (0b01000000 + 8 * operandCode x + operandCode y)]) ∧
    encode (movInstr .m .m) = encode .hlt ∧ encode .hlt = [0b01110110] ∧
    encode (mviInstr x v) = [byte (0b00000110 + 8 * operandCode x), v] ∧
    encode (inrInstr x) = [byte (0b00000100 + 8 * operandCode x)] ∧
    encode (dcrInstr x) = [byte (0b00000101 + 8 * operandCode x)] ∧
    encode (aluInstr op y) = [byte (0b10000000 + 8 * aluCode op + operandCode y)] ∧
    encode (aluImmInstr op v) = [byte (0b11000110 + 8 * aluCode op), v] ∧
    encode (lxiInstr p w) = [byte (0b00000001 + 16 * pairCode p), byte (w.toNat % 256), byte (w.toNat / 256)] ∧
    encode (dadInstr p) = [byte (0b00001001 + 16 * pairCode p)] ∧
    encode (inxInstr p) = [byte (0b00000011 + 16 * pairCode p)] ∧
    encode (dcxInstr p) = [byte (0b00001011 + 16 * pairCode p)] ∧
    encode (staxInstr r) = [byte (0b00000010 + 16 * basePairCode r)] ∧
    encode (ldaxInstr r) = [byte (0b00001010 + 16 * basePairCode r)] ∧
    encode (pushInstr q) = [byte (0b11000101 + 16 * stackPairCode q)] ∧
    encode (popInstr q) = [byte (0b11000001 + 16 * stackPairCode q)] ∧
    encode (jumpIfInstr cond w) = [byte (0b11000010 + 8 * condCode cond), byte (w.toNat % 256), byte (w.toNat / 256)] ∧
    encode (callIfInstr cond w) = [byte (0b11000100 + 8 * condCode cond), byte (w.toNat % 256), byte (w.toNat / 256)] ∧
    encode (returnIfInstr cond) = [byte (0b11000000 + 8 * condCode cond)] ∧
    (n < 8 → encode (rstInstr n) = [byte (0b11000111 + 8 * n)]) ∧
    (n < 8 → encode (nopInstr n) = [byte (8 * n)])

/-- R71: the byte `0x76` is `HLT`, and nothing else is. -/
def Obligations.HaltByteIsNoMove : Prop :=
  ∀ op b1 b2 : Byte, decodeBytes op b1 b2 = .hlt ↔ op = 0x76

/-- A few words written out from the spec's encodings, one for each format and quadrant. -/
def Obligations.WordsOfTheSpec : Prop :=
  decode [0b01111000] = .ok (.movAB, []) ∧
  decode [0b00111110, 0x05] = .ok (.mviA 0x05, []) ∧
  decode [0b00000110, 0x03] = .ok (.mviB 0x03, []) ∧
  decode [0b10000000] = .ok (.addB, []) ∧
  decode [0b00100001, 0x34, 0x12] = .ok (.lxiH 0x1234, []) ∧
  decode [0b11001101, 0x00, 0x20] = .ok (.call 0x2000, []) ∧
  decode [0b11010011, 0x04] = .ok (.outPort 0x04, []) ∧
  decode [0b11101001, 0x55] = .ok (.pchl, [0x55])

/-- R69: each of the twelve alias bytes is a full instruction, with the length, the operand bytes and the whole effect of the
instruction it aliases. -/
def Obligations.AliasesExecuteAsTheirCore : Prop :=
  ∀ (s : State) (w : Word),
    let pairs : List (Instr × Instr) :=
      [(.nop08, .nop), (.nop10, .nop), (.nop18, .nop), (.nop20, .nop), (.nop28, .nop), (.nop30, .nop), (.nop38, .nop),
       (.jmpCB w, .jmp w), (.retD9, .ret), (.callDD w, .call w), (.callED w, .call w), (.callFD w, .call w)]
    (pairs.map fun p => p.1.opcode) = [0x08, 0x10, 0x18, 0x20, 0x28, 0x30, 0x38, 0xCB, 0xD9, 0xDD, 0xED, 0xFD] ∧
    ∀ p ∈ pairs, exec p.1 s = exec p.2 s ∧ p.1.length = p.2.length ∧ (encode p.1).tail = (encode p.2).tail

/-! ## Steps, the host and interrupts -/

/-- R283: a step of the machine that is not halted runs the instruction whose bytes stand at `pc`, `pc + 1`, `pc + 2`. The state
`exec` starts from is the state itself, less the host's `step` action if the host's schedule holds one (log entry 5). -/
def Obligations.StepRunsTheDecodedInstruction : Prop :=
  ∀ (s : State) (i : Instr) (rest : List Byte) (later : List HostAction), s.halted = false →
    decode [s.readByte s.pc, s.readByte (s.pc + 1), s.readByte (s.pc + 2)] = .ok (i, rest) →
    (s.schedule = [] → step s = exec i s) ∧
    (s.schedule = .step :: later → step s = exec i { s with schedule := later })

/-- R284: a step while halted changes nothing. That the host's `step` is an action on a schedule in the state, and that taking it off
is the one change, is the model's choice (log entry 5, DESIGN CHOICE), not R284's. -/
def Obligations.HaltedStepChangesNothing : Prop :=
  ∀ (s : State) (later : List HostAction), s.halted = true →
    (s.schedule = [] → step s = .next s) ∧
    (s.schedule = .step :: later → step s = .next { s with schedule := later })

/-- R257 and R255: a request made while interrupts are enabled is serviced, and one made while they are disabled changes
nothing at all. That the word pushed is `pc` itself is a choice: the source's sentence says `pc` minus one, R257 decides `pc` (D2),
and the model fixes the spec's parameter IntPushBias at 0 (log entry 9, DESIGN CHOICE). That a request is one transition of
`step` is the model's too (log entry 5, DESIGN CHOICE). -/
def Obligations.InterruptService : Prop :=
  ∀ (s : State) (later : List HostAction), s.schedule = .interrupt :: later →
    (s.intEnable = false → step s = .next { s with schedule := later }) ∧
    (s.intEnable = true → ∃ t, step s = .next t ∧
      t = { s with schedule := later, halted := false, mem := t.mem, sp := s.sp - 2,
                   pc := (if s.interruptNumber = .one then 0x0008 else 0x0010), intEnable := false,
                   interruptNumber := (if s.interruptNumber = .one then .two else .one) } ∧
      storesWord s t (s.sp - 2) (BitVec.ofNat 8 (s.pc.toNat / 256)) (BitVec.ofNat 8 (s.pc.toNat % 256)))

/-- R258: accepted services vector to 8, 16, 8, ... in order of acceptance, from the value of `interrupt_number` after reset on. That
a request is one transition of `step` is the model's (log entry 5). -/
def Obligations.VectorsAlternate : Prop :=
  ∀ (s t : State) (later later' : List HostAction) , s.intEnable = true → s.schedule = .interrupt :: later →
    step s = .next t →
    t.pc = (if s.interruptNumber = .one then 0x0008 else 0x0010) ∧
    ∀ u : State, u.interruptNumber = t.interruptNumber → u.intEnable = true → u.schedule = .interrupt :: later' →
      ∃ w, step u = .next w ∧ w.pc = (if s.interruptNumber = .one then 0x0010 else 0x0008) ∧
        w.interruptNumber = s.interruptNumber

/-- R260 and R269: a `RET` (or its alias byte) right at the vector resumes the interrupted program, halted or not, at the
instruction not yet executed, with the stack pointer and every register and flag as they were, and leaves interrupts disabled. It
rests on the pushed word being `pc` itself, IntPushBias fixed at 0 (log entry 9, DESIGN CHOICE). The request comes from the
model's schedule (log entry 5, DESIGN CHOICE). -/
def Obligations.ReturnResumesTheInterruptedProgram : Prop :=
  ∀ (s t : State) (later : List HostAction), s.intEnable = true → s.schedule = .interrupt :: later → step s = .next t →
    ∀ i ∈ [Instr.ret, .retD9], ∃ u, exec i t = .next u ∧ u.pc = s.pc ∧ u.sp = s.sp ∧ u.regs = s.regs ∧ u.flags = s.flags ∧
      u.bridge = s.bridge ∧ u.halted = false ∧ u.intEnable = false

/-- R240: the host's write to an input latch changes that latch and nothing else. That it is one transition of `step` is the model's
(log entry 5). -/
def Obligations.HostWritesInputLatches : Prop :=
  ∀ (s : State) (v : Byte) (later : List HostAction),
    (s.schedule = .writePort1 v :: later →
      step s = .next { s with schedule := later, bridge := { s.bridge with port1 := v } }) ∧
    (s.schedule = .writePort2 v :: later →
      step s = .next { s with schedule := later, bridge := { s.bridge with port2 := v } })

/-- R280, R28 and R281: after the event `Reset` the fields the spec gives a value hold it, the image stands from address 0 on, the
input latches hold what the host has written; every field R281 leaves arbitrary (registers, flags, `sp`, output latches and
shadows, shift register, memory outside the image) holds its launch value, "not as zero and not as a fixed constant"; and
nothing depends on the state before but the input latches and the model's own fields. That the launch values come with the event is
the model's choice (log entry 6, DESIGN CHOICE), and so is what a byte reads as for which they list nothing (log entry 3,
DESIGN CHOICE). -/
def Obligations.ResetEvent : Prop :=
  ∀ (s : State) (l : Launch) (later : List HostAction), s.schedule = .reset l :: later → l.wf = true →
    ∃ t, step s = .next t ∧ t.isLaunch l.image ∧ t.bridge.port1 = s.bridge.port1 ∧ t.bridge.port2 = s.bridge.port2 ∧
      t.regs = l.regs ∧ t.flags = l.flags ∧ t.sp = l.sp ∧
      t.bridge.outPort3 = l.outPort3 ∧ t.bridge.outPort3Prev = l.outPort3Prev ∧
      t.bridge.outPort5 = l.outPort5 ∧ t.bridge.outPort5Prev = l.outPort5Prev ∧
      t.bridge.shift0 = l.shift0 ∧ t.bridge.shift1 = l.shift1 ∧ t.bridge.shiftOffset = l.shiftOffset ∧
      (∀ x : Word, l.image.length ≤ x.toNat → t.readByte x = launchByte l x) ∧
      ∀ (s' : State) (later' : List HostAction), s'.schedule = .reset l :: later' →
        step s' = .next { t with schedule := later', draws := s'.draws,
                                 bridge := { t.bridge with port1 := s'.bridge.port1, port2 := s'.bridge.port2 } }

/-- The state after reset: the four values R28 gives; it is a launch state of the empty image; the other registers are zero, which is
the model's choice (log entry 1). -/
def Obligations.ResetState : Prop :=
  State.reset.pc = 0x0000 ∧ State.reset.interruptNumber = .one ∧ State.reset.halted = false ∧ State.reset.intEnable = false ∧
    State.reset.isLaunch [] ∧ State.reset.sp = 0 ∧ (∀ r, State.reset.regs.get r = 0)

/-- R250: no step faults and none is refused, in any state. -/
def Obligations.NoStepFaultsOrRefuses : Prop := ∀ s : State, ∃ t, step s = .next t

/-- R291 (a): halted with interrupts disabled is permanent. Whatever steps, interrupt requests and latch writes the host makes, as
many as it likes, nothing but the input latches and what is left of the schedule differs. That the host's actions are a list in
the state is the model's (log entry 5). -/
def Obligations.HaltedForGoodIsPermanent : Prop :=
  ∀ (n : Nat) (s : State), s.haltedForGood → (∀ a ∈ s.schedule, a.isReset = false) →
    ∃ t, core.run n s = .next t ∧
      t = { s with schedule := s.schedule.drop n,
                   bridge := { s.bridge with port1 := t.bridge.port1, port2 := t.bridge.port2 } }

/-- R19, R20, R21, over a whole transition: `halted` is cleared only by an accepted interrupt or a reset and set only by `HLT`;
interrupts are enabled only by `EI` and disabled only by `DI`, an accepted interrupt or a reset; `interrupt_number` changes only
by an accepted interrupt or a reset. Interrupts and resets come from the model's schedule (log entry 5). -/
def Obligations.OnlyTheseEventsChangeControlState : Prop :=
  ∀ s t : State, step s = .next t →
    let serviced := s.intEnable = true ∧ ∃ later, s.schedule = .interrupt :: later
    let reset := ∃ l later, s.schedule = .reset l :: later
    let runs := fun i : Instr => s.halted = false ∧ (s.schedule = [] ∨ ∃ later, s.schedule = .step :: later) ∧ fetchInstr s = i
    (s.halted = true → t.halted = false → serviced ∨ reset) ∧
    (s.halted = false → t.halted = true → runs .hlt) ∧
    (s.intEnable = false → t.intEnable = true → runs .ei) ∧
    (s.intEnable = true → t.intEnable = false → runs .di ∨ serviced ∨ reset) ∧
    (t.interruptNumber ≠ s.interruptNumber → serviced ∨ reset)

/-- The canonical form of memory is kept by every transition: instructions, interrupts and resets. The list form is the model's (log
entries 3 and 14). -/
def Obligations.StepKeepsCanonicalMemory : Prop :=
  ∀ s t : State, s.Inv → step s = .next t → t.Inv

/-- The state after reset has the invariant, by the model's choice of its memory (log entry 3). -/
def Obligations.ResetHasCanonicalMemory : Prop := State.reset.Inv

/-! ## All instructions at once -/

/-- R15: an instruction that does not transfer control ends with `pc` moved past its bytes, modulo 2^16. -/
def Obligations.PcAdvancesByTheLength : Prop :=
  ∀ (i : Instr) (s t : State), transfersControl i = false → exec i s = .next t → t.pc = s.pc + BitVec.ofNat 16 i.length

/-- R17 and R93: a flag the table does not list for an instruction keeps its value. -/
def Obligations.FlagsOutsideTheTableStay : Prop :=
  ∀ (i : Instr) (s t : State), exec i s = .next t →
    let w := flagsWritten i
    (w.1 = false → t.flags.z = s.flags.z) ∧ (w.2.1 = false → t.flags.s = s.flags.s) ∧
    (w.2.2.1 = false → t.flags.p = s.flags.p) ∧ (w.2.2.2.1 = false → t.flags.cy = s.flags.cy) ∧
    (w.2.2.2.2 = false → t.flags.ac = s.flags.ac)

/-- R44, over all instructions: every address other than the ones the instruction stores to reads as before; for an instruction
that stores nothing, every address does. -/
def Obligations.OnlyTheStoredBytesChange : Prop :=
  ∀ (i : Instr) (s t : State), exec i s = .next t → ∀ x, x ∉ storeAddresses s i → t.readByte x = s.readByte x

/-- R13: `sp` is written by `LXI SP`, `SPHL`, `INX SP`, `DCX SP`, pushes, pops, calls, returns and restarts only. -/
def Obligations.SpChangesOnlyByItsInstructions : Prop :=
  ∀ (i : Instr) (s t : State), exec i s = .next t → writesSp i = false → t.sp = s.sp

/-- R22 to R24, R19 to R21 and R241: an instruction never writes an input latch, only `OUT` changes the bridge, only `HLT` sets
`halted`, only `EI` and `DI` write `int_enable`, none writes `interrupt_number`; and the model's own fields (log entries 4
and 5) change by no instruction but `IN`. -/
def Obligations.InstructionsKeepControlAndPortState : Prop :=
  ∀ (i : Instr) (s t : State), exec i s = .next t →
    t.bridge.port1 = s.bridge.port1 ∧ t.bridge.port2 = s.bridge.port2 ∧
    ((∀ p, i ≠ .outPort p) → t.bridge = s.bridge) ∧
    (i ≠ .hlt → t.halted = s.halted) ∧
    (i ≠ .ei → i ≠ .di → t.intEnable = s.intEnable) ∧
    t.interruptNumber = s.interruptNumber ∧ t.schedule = s.schedule ∧
    ((∀ p, i ≠ .inPort p) → t.draws = s.draws)

/-! ## Memory and registers -/

/-- R44, R10, R12 and R41: a write of a byte changes exactly the addressed byte, a write of a register exactly that register; a
pair is its high register times 256 plus its low register, and a word in memory is its low byte at the address and its high
byte at the next, modulo 2^16. -/
def Obligations.WritesAreLocal : Prop :=
  ∀ (s : State) (g : Regs) (addr x v : Word) (b : Byte) (r r' : Reg),
    ((s.writeByte addr b).readByte x = if x = addr then b else s.readByte x) ∧
    storesWord s (s.writeWord addr v) addr (BitVec.ofNat 8 (v.toNat / 256)) (BitVec.ofNat 8 (v.toNat % 256)) ∧
    (s.readWord addr).toNat = (s.readByte (addr + 1)).toNat * 256 + (s.readByte addr).toNat ∧
    ((g.set r b).get r' = if r' = r then b else g.get r') ∧
    g.bc.toNat = g.b.toNat * 256 + g.c.toNat ∧ g.de.toNat = g.d.toNat * 256 + g.e.toNat ∧
    g.hl.toNat = g.h.toNat * 256 + g.l.toNat ∧
    g.setBC v = { g with b := BitVec.ofNat 8 (v.toNat / 256), c := BitVec.ofNat 8 (v.toNat % 256) } ∧
    g.setDE v = { g with d := BitVec.ofNat 8 (v.toNat / 256), e := BitVec.ofNat 8 (v.toNat % 256) } ∧
    g.setHL v = { g with h := BitVec.ofNat 8 (v.toNat / 256), l := BitVec.ofNat 8 (v.toNat % 256) }

/-- R54: a `CALL` whose push lands on its own operand bytes still goes to the target it fetched, wherever `sp` points; and a store
into the very next instruction is seen by the next fetch. -/
def Obligations.FetchSeesStoresAndOperandsComeFirst : Prop :=
  (∀ (s t : State), s.halted = false → s.schedule = [] → s.readByte s.pc = 0xCD → step s = .next t →
    t.pc.toNat = (s.readByte (s.pc + 2)).toNat * 256 + (s.readByte (s.pc + 1)).toNat) ∧
  (∀ (s t : State) (b1 b2 : Byte), exec (.sta (s.pc + 3)) s = .next t → t.readByte (t.pc + 1) = b1 → t.readByte (t.pc + 2) = b2 →
    fetchInstr t = decodeBytes s.regs.a b1 b2)

/-! ## Data transfer -/

/-- R100 and R101: `MOV r,r` and `MOV r,M`. -/
def Obligations.MoveToRegister : Prop :=
  ∀ (d : Reg) (src : Operand) (s : State),
    encode (movInstr (.reg d) src) = [byte (0b01000000 + 8 * operandCode (.reg d) + operandCode src)] ∧
    exec (movInstr (.reg d) src) s = .next { s with regs := s.regs.set d (s.readOperand src), pc := s.pc + 1 }

/-- R102 and R104: `MOV M,r` and `MVI M`. -/
def Obligations.MoveToMemory : Prop :=
  ∀ (r : Reg) (v : Byte) (s : State),
    encode (movInstr .m (.reg r)) = [byte (0b01110000 + operandCode (.reg r))] ∧
    (∃ t, exec (movInstr .m (.reg r)) s = .next t ∧ t = { s with mem := t.mem, pc := s.pc + 1 } ∧
      storesByte s t s.hl (s.regs.get r)) ∧
    encode (.mviM v) = [0x36, v] ∧
    (∃ t, exec (.mviM v) s = .next t ∧ t = { s with mem := t.mem, pc := s.pc + 2 } ∧ storesByte s t s.hl v)

/-- R103 and R105: `MVI r` and `LXI`. -/
def Obligations.ImmediateLoads : Prop :=
  ∀ (r : Reg) (v low high : Byte) (s : State),
    encode (mviInstr (.reg r) v) = [byte (0b00000110 + 8 * operandCode (.reg r)), v] ∧
    exec (mviInstr (.reg r) v) s = .next { s with regs := s.regs.set r v, pc := s.pc + 2 } ∧
    (∀ p, decode [byte (0b00000001 + 16 * pairCode p), low, high] = .ok (lxiInstr p (mkWord high low), [])) ∧
    exec (lxiInstr .b (mkWord high low)) s = .next { s with regs := { s.regs with b := high, c := low }, pc := s.pc + 3 } ∧
    exec (lxiInstr .d (mkWord high low)) s = .next { s with regs := { s.regs with d := high, e := low }, pc := s.pc + 3 } ∧
    exec (lxiInstr .h (mkWord high low)) s = .next { s with regs := { s.regs with h := high, l := low }, pc := s.pc + 3 } ∧
    ∃ t, exec (lxiInstr .sp (mkWord high low)) s = .next t ∧ t = { s with sp := t.sp, pc := s.pc + 3 } ∧
      t.sp.toNat = high.toNat * 256 + low.toNat

/-- R106, R108 and R110: `LDA`, `LHLD`, `LDAX`. -/
def Obligations.LoadsFromMemory : Prop :=
  ∀ (w : Word) (s : State),
    encode (.lda w) = [0x3A, byte (w.toNat % 256), byte (w.toNat / 256)] ∧
    exec (.lda w) s = .next { s with regs := { s.regs with a := s.readByte w }, pc := s.pc + 3 } ∧
    encode (.lhld w) = [0x2A, byte (w.toNat % 256), byte (w.toNat / 256)] ∧
    exec (.lhld w) s =
      .next { s with regs := { s.regs with l := s.readByte w, h := s.readByte (w + 1) }, pc := s.pc + 3 } ∧
    encode .ldaxB = [0x0A] ∧
    exec .ldaxB s = .next { s with regs := { s.regs with a := s.readByte s.regs.bc }, pc := s.pc + 1 } ∧
    encode .ldaxD = [0x1A] ∧
    exec .ldaxD s = .next { s with regs := { s.regs with a := s.readByte s.regs.de }, pc := s.pc + 1 }

/-- R107, R109 and R111: `STA`, `SHLD`, `STAX`. -/
def Obligations.StoresToMemory : Prop :=
  ∀ (w : Word) (s : State),
    encode (.sta w) = [0x32, byte (w.toNat % 256), byte (w.toNat / 256)] ∧
    (∃ t, exec (.sta w) s = .next t ∧ t = { s with mem := t.mem, pc := s.pc + 3 } ∧ storesByte s t w s.regs.a) ∧
    encode (.shld w) = [0x22, byte (w.toNat % 256), byte (w.toNat / 256)] ∧
    (∃ t, exec (.shld w) s = .next t ∧ t = { s with mem := t.mem, pc := s.pc + 3 } ∧ storesWord s t w s.regs.h s.regs.l) ∧
    encode .staxB = [0x02] ∧
    (∃ t, exec .staxB s = .next t ∧ t = { s with mem := t.mem, pc := s.pc + 1 } ∧ storesByte s t s.regs.bc s.regs.a) ∧
    encode .staxD = [0x12] ∧
    (∃ t, exec .staxD s = .next t ∧ t = { s with mem := t.mem, pc := s.pc + 1 } ∧ storesByte s t s.regs.de s.regs.a)

/-- R112 and R205: `XCHG` and `SPHL`. -/
def Obligations.ExchangeAndSphl : Prop :=
  ∀ s : State,
    encode .xchg = [0xEB] ∧
    exec .xchg s =
      .next { s with regs := { s.regs with h := s.regs.d, l := s.regs.e, d := s.regs.h, e := s.regs.l }, pc := s.pc + 1 } ∧
    encode .sphl = [0xF9] ∧
    ∃ t, exec .sphl s = .next t ∧ t = { s with sp := t.sp, pc := s.pc + 1 } ∧
      t.sp.toNat = s.regs.h.toNat * 256 + s.regs.l.toNat

/-! ## Arithmetic -/

/-- R122 to R127: `ADD`, `ADI`, `ADC`, `ACI`, every operand form, with R120, R83 and R86. -/
def Obligations.Additions : Prop :=
  ∀ (src : Operand) (v : Byte) (s : State),
    encode (aluInstr .add src) = [byte (0b10000000 + operandCode src)] ∧
    (∃ t, exec (aluInstr .add src) s = .next t ∧ added s t (s.readOperand src) 0 1) ∧
    encode (.adi v) = [0xC6, v] ∧ (∃ t, exec (.adi v) s = .next t ∧ added s t v 0 2) ∧
    encode (aluInstr .adc src) = [byte (0b10001000 + operandCode src)] ∧
    (∃ t, exec (aluInstr .adc src) s = .next t ∧ added s t (s.readOperand src) (carry s) 1) ∧
    encode (.aci v) = [0xCE, v] ∧ (∃ t, exec (.aci v) s = .next t ∧ added s t v (carry s) 2)

/-- R128 to R133: `SUB`, `SUI`, `SBB`, `SBI`, every operand form, with R121, R84 and R87. -/
def Obligations.Subtractions : Prop :=
  ∀ (src : Operand) (v : Byte) (s : State),
    encode (aluInstr .sub src) = [byte (0b10010000 + operandCode src)] ∧
    (∃ t, exec (aluInstr .sub src) s = .next t ∧ subtracted s t (s.readOperand src) 0 1) ∧
    encode (.sui v) = [0xD6, v] ∧ (∃ t, exec (.sui v) s = .next t ∧ subtracted s t v 0 2) ∧
    encode (aluInstr .sbb src) = [byte (0b10011000 + operandCode src)] ∧
    (∃ t, exec (aluInstr .sbb src) s = .next t ∧ subtracted s t (s.readOperand src) (carry s) 1) ∧
    encode (.sbi v) = [0xDE, v] ∧ (∃ t, exec (.sbi v) s = .next t ∧ subtracted s t v (carry s) 2)

/-- R134 and R136: `INR r` and `DCR r`; the carry stays. The clauses on `ac` are a choice: the source leaves `ac` here to the
implementer, R88 chooses these values (D4), and the model fixes the spec's parameter AcPolicy at them (log entry 8, DESIGN
CHOICE). -/
def Obligations.IncrementDecrementRegister : Prop :=
  ∀ (r : Reg) (s : State),
    encode (inrInstr (.reg r)) = [byte (0b00000100 + 8 * operandCode (.reg r))] ∧
    (∃ t, exec (inrInstr (.reg r)) s = .next t ∧ (t.regs.get r).toNat = ((s.regs.get r).toNat + 1) % 256 ∧
      zspOf (t.regs.get r) t.flags ∧ t.flags.cy = s.flags.cy ∧ (t.flags.ac = true ↔ (s.regs.get r).toNat % 16 = 0xF) ∧
      t = { s with regs := s.regs.set r (t.regs.get r), flags := t.flags, pc := s.pc + 1 }) ∧
    encode (dcrInstr (.reg r)) = [byte (0b00000101 + 8 * operandCode (.reg r))] ∧
    (∃ t, exec (dcrInstr (.reg r)) s = .next t ∧ (t.regs.get r).toNat = ((s.regs.get r).toNat + 255) % 256 ∧
      zspOf (t.regs.get r) t.flags ∧ t.flags.cy = s.flags.cy ∧ (t.flags.ac = true ↔ (s.regs.get r).toNat % 16 = 0x0) ∧
      t = { s with regs := s.regs.set r (t.regs.get r), flags := t.flags, pc := s.pc + 1 })

/-- R135 and R137: `INR M` and `DCR M`; the byte at `HL` and no other, the carry stays. The clauses on `ac` are a choice: R88
chooses these values (D4), and the model fixes the spec's parameter AcPolicy at them (log entry 8, DESIGN CHOICE). -/
def Obligations.IncrementDecrementMemory : Prop :=
  ∀ s : State,
    encode .inrM = [0x34] ∧
    (∃ t, exec .inrM s = .next t ∧ (t.readByte s.hl).toNat = ((s.readByte s.hl).toNat + 1) % 256 ∧
      storesByte s t s.hl (t.readByte s.hl) ∧ zspOf (t.readByte s.hl) t.flags ∧ t.flags.cy = s.flags.cy ∧
      (t.flags.ac = true ↔ (s.readByte s.hl).toNat % 16 = 0xF) ∧
      t = { s with mem := t.mem, flags := t.flags, pc := s.pc + 1 }) ∧
    encode .dcrM = [0x35] ∧
    (∃ t, exec .dcrM s = .next t ∧ (t.readByte s.hl).toNat = ((s.readByte s.hl).toNat + 255) % 256 ∧
      storesByte s t s.hl (t.readByte s.hl) ∧ zspOf (t.readByte s.hl) t.flags ∧ t.flags.cy = s.flags.cy ∧
      (t.flags.ac = true ↔ (s.readByte s.hl).toNat % 16 = 0x0) ∧
      t = { s with mem := t.mem, flags := t.flags, pc := s.pc + 1 })

/-- R138 and R139: `INX` and `DCX`; no flag changes, not even on a wrap. -/
def Obligations.PairIncrementDecrement : Prop :=
  ∀ (p : Pair) (s : State),
    encode (inxInstr p) = [byte (0b00000011 + 16 * pairCode p)] ∧
    encode (dcxInstr p) = [byte (0b00001011 + 16 * pairCode p)] ∧
    (∃ t, exec (inxInstr p) s = .next t ∧ (t.readPair p).toNat = ((s.readPair p).toNat + 1) % 65536 ∧
      t = { s.writePair p (t.readPair p) with pc := s.pc + 1 }) ∧
    (∃ t, exec (dcxInstr p) s = .next t ∧ (t.readPair p).toNat = ((s.readPair p).toNat + 65535) % 65536 ∧
      t = { s.writePair p (t.readPair p) with pc := s.pc + 1 }) ∧
    (∀ w, s.writePair .sp w = { s with sp := w }) ∧
    (p ≠ .sp → ∀ w, s.writePair p w = { s with regs := (s.writePair p w).regs })

/-- R140: `DAD`; the carry out of bit 15, no other flag. -/
def Obligations.PairAddition : Prop :=
  ∀ (p : Pair) (s : State),
    encode (dadInstr p) = [byte (0b00001001 + 16 * pairCode p)] ∧
    ∃ t, exec (dadInstr p) s = .next t ∧ t.hl.toNat = (s.hl.toNat + (s.readPair p).toNat) % 65536 ∧
      (t.flags.cy = true ↔ 0xFFFF < s.hl.toNat + (s.readPair p).toNat) ∧
      t = { s with regs := { s.regs with h := t.regs.h, l := t.regs.l }, flags := { s.flags with cy := t.flags.cy },
                   pc := s.pc + 1 }

/-- R141, by its one-shot form: `corr` collects 6 and 0x60, the carry is set and never cleared, and the flags are those of the final
accumulator. The model runs the two stages. -/
def Obligations.DecimalAdjust : Prop :=
  ∀ s : State, encode .daa = [0x27] ∧
    ∃ t, exec .daa s = .next t ∧
      (let low := if 9 < s.regs.a.toNat % 16 ∨ s.flags.ac = true then 0x06 else 0x00
       let high := if 0x99 < s.regs.a.toNat ∨ s.flags.cy = true then 0x60 else 0x00
       t.regs.a.toNat = (s.regs.a.toNat + low + high) % 256 ∧
       (t.flags.cy = true ↔ 0x99 < s.regs.a.toNat ∨ s.flags.cy = true) ∧
       (t.flags.ac = true ↔ 0xF < s.regs.a.toNat % 16 + low)) ∧
      zspOf t.regs.a t.flags ∧
      t = { s with regs := { s.regs with a := t.regs.a }, flags := t.flags, pc := s.pc + 1 }

/-! ## Logic, compare, rotates, carry -/

/-- R151 to R159: `ANA ANI XRA XRI ORA ORI`, every operand form, with R150 and R85. That `ac` is cleared is a choice: "the value of
`ac` is the one point of it the source leaves open" (R150), R88 chooses 0 (D4), and the model fixes the spec's parameter AcPolicy
at it (log entry 8, DESIGN CHOICE). -/
def Obligations.BitwiseOperations : Prop :=
  ∀ (src : Operand) (v : Byte) (s : State),
    encode (aluInstr .ana src) = [byte (0b10100000 + operandCode src)] ∧
    (∃ t, exec (aluInstr .ana src) s = .next t ∧ logical s t (s.regs.a &&& s.readOperand src) 1) ∧
    encode (.ani v) = [0xE6, v] ∧ (∃ t, exec (.ani v) s = .next t ∧ logical s t (s.regs.a &&& v) 2) ∧
    encode (aluInstr .xra src) = [byte (0b10101000 + operandCode src)] ∧
    (∃ t, exec (aluInstr .xra src) s = .next t ∧ logical s t (s.regs.a ^^^ s.readOperand src) 1) ∧
    encode (.xri v) = [0xEE, v] ∧ (∃ t, exec (.xri v) s = .next t ∧ logical s t (s.regs.a ^^^ v) 2) ∧
    encode (aluInstr .ora src) = [byte (0b10110000 + operandCode src)] ∧
    (∃ t, exec (aluInstr .ora src) s = .next t ∧ logical s t (s.regs.a ||| s.readOperand src) 1) ∧
    encode (.ori v) = [0xF6, v] ∧ (∃ t, exec (.ori v) s = .next t ∧ logical s t (s.regs.a ||| v) 2)

/-- R160 to R162: `CMP` and `CPI`, every operand form. -/
def Obligations.Comparisons : Prop :=
  ∀ (src : Operand) (v : Byte) (s : State),
    encode (aluInstr .cmp src) = [byte (0b10111000 + operandCode src)] ∧
    (∃ t, exec (aluInstr .cmp src) s = .next t ∧ compared s t (s.readOperand src) 1 ∧
      (t.flags.z = true ↔ s.regs.a = s.readOperand src)) ∧
    encode (.cpi v) = [0xFE, v] ∧
    (∃ t, exec (.cpi v) s = .next t ∧ compared s t v 2 ∧ (t.flags.z = true ↔ s.regs.a = v))

/-- R163 to R166: each rotate moves the accumulator by one bit and writes the carry and no other flag. -/
def Obligations.Rotates : Prop :=
  ∀ s : State,
    let a := s.regs.a.toNat
    let rotated := fun (t : State) (value cy : Nat) =>
      t.regs.a.toNat = value ∧ (t.flags.cy = true ↔ cy = 1) ∧
      t = { s with regs := { s.regs with a := t.regs.a }, flags := { s.flags with cy := t.flags.cy }, pc := s.pc + 1 }
    [Instr.rlc, .rrc, .ral, .rar].map encode = [[0x07], [0x0F], [0x17], [0x1F]] ∧
    (∃ t, exec .rlc s = .next t ∧ rotated t (a * 2 % 256 + a / 128) (a / 128)) ∧
    (∃ t, exec .rrc s = .next t ∧ rotated t (a / 2 + a % 2 * 128) (a % 2)) ∧
    (∃ t, exec .ral s = .next t ∧ rotated t (a * 2 % 256 + carry s) (a / 128)) ∧
    (∃ t, exec .rar s = .next t ∧ rotated t (a / 2 + carry s * 128) (a % 2))

/-- The corner cases of R163 to R165 and the vectors of the rotates: eight `RLC` or `RRC` restore the accumulator, nine `RAL` or
`RAR` restore the accumulator and the carry. -/
def Obligations.RotatesComeFullCircle : Prop :=
  ∀ s : State,
    (∀ i ∈ [Instr.rlc, .rrc], ∃ t, repeated i 8 s = .next t ∧ t.regs = s.regs) ∧
    (∀ i ∈ [Instr.ral, .rar], ∃ t, repeated i 9 s = .next t ∧ t.regs = s.regs ∧ t.flags = s.flags)

/-- R167, R168 and R169: `CMA` writes no flag, `CMC` and `STC` write the carry and nothing else. -/
def Obligations.ComplementAndCarry : Prop :=
  ∀ s : State,
    [Instr.cma, .cmc, .stc].map encode = [[0x2F], [0x3F], [0x37]] ∧
    (∃ t, exec .cma s = .next t ∧ t.regs.a.toNat = 255 - s.regs.a.toNat ∧
      t = { s with regs := { s.regs with a := t.regs.a }, pc := s.pc + 1 }) ∧
    exec .cmc s = .next { s with flags := { s.flags with cy := !s.flags.cy }, pc := s.pc + 1 } ∧
    exec .stc s = .next { s with flags := { s.flags with cy := true }, pc := s.pc + 1 }

/-! ## Control transfer -/

/-- R180, R181, R187 and R188: `JMP` and its alias byte, the conditional jumps, `PCHL`. -/
def Obligations.Jumps : Prop :=
  ∀ (cond : Cond) (w : Word) (s : State),
    encode (.jmp w) = [0xC3, byte (w.toNat % 256), byte (w.toNat / 256)] ∧ exec (.jmp w) s = .next { s with pc := w } ∧
    encode (.jmpCB w) = [0xCB, byte (w.toNat % 256), byte (w.toNat / 256)] ∧ exec (.jmpCB w) s = .next { s with pc := w } ∧
    encode (jumpIfInstr cond w) = [byte (0b11000010 + 8 * condCode cond), byte (w.toNat % 256), byte (w.toNat / 256)] ∧
    (condTrue s.flags cond → exec (jumpIfInstr cond w) s = .next { s with pc := w }) ∧
    (¬condTrue s.flags cond → exec (jumpIfInstr cond w) s = .next { s with pc := s.pc + 3 }) ∧
    encode .pchl = [0xE9] ∧
    ∃ t, exec .pchl s = .next t ∧ t = { s with pc := t.pc } ∧ t.pc.toNat = s.regs.h.toNat * 256 + s.regs.l.toNat

/-- R182, R183 and R190: `CALL` and its alias bytes `0xDD 0xED 0xFD`, with the round trip through `RET`, and the conditional calls. -/
def Obligations.Calls : Prop :=
  ∀ (cond : Cond) (w : Word) (s : State),
    [Instr.call w, .callDD w, .callED w, .callFD w].map encode =
      [0xCD, 0xDD, 0xED, 0xFD].map (fun op => [op, byte (w.toNat % 256), byte (w.toNat / 256)]) ∧
    (∀ i ∈ [Instr.call w, .callDD w, .callED w, .callFD w], ∃ t u, exec i s = .next t ∧ called s t w (s.pc + 3) ∧
      exec .ret t = .next u ∧ u.pc = s.pc + 3 ∧ u.sp = s.sp) ∧
    encode (callIfInstr cond w) = [byte (0b11000100 + 8 * condCode cond), byte (w.toNat % 256), byte (w.toNat / 256)] ∧
    (condTrue s.flags cond → ∃ t, exec (callIfInstr cond w) s = .next t ∧ called s t w (s.pc + 3)) ∧
    (¬condTrue s.flags cond → exec (callIfInstr cond w) s = .next { s with pc := s.pc + 3 })

/-- R184, R185 and R189: `RET` and its alias byte, the conditional returns. -/
def Obligations.Returns : Prop :=
  ∀ (cond : Cond) (s : State),
    encode .ret = [0xC9] ∧ encode .retD9 = [0xD9] ∧
    (∀ i ∈ [Instr.ret, .retD9], ∃ t, exec i s = .next t ∧ returned s t) ∧
    encode (returnIfInstr cond) = [byte (0b11000000 + 8 * condCode cond)] ∧
    (condTrue s.flags cond → ∃ t, exec (returnIfInstr cond) s = .next t ∧ returned s t) ∧
    (¬condTrue s.flags cond → exec (returnIfInstr cond) s = .next { s with pc := s.pc + 1 })

/-- R186: `RST n` pushes the address after it and goes to `8 * n`. -/
def Obligations.Restarts : Prop :=
  ∀ (n : Nat) (s : State), n < 8 →
    encode (rstInstr n) = [byte (0b11000111 + 8 * n)] ∧
    ∃ t, exec (rstInstr n) s = .next t ∧ called s t (BitVec.ofNat 16 (8 * n)) (s.pc + 1)

/-- The round trip of R182 (and of R183, R186, R191): for any `pc` and `sp`, a call, a conditional call that is taken or a restart,
followed by a return or a conditional return that is taken, restores `pc` to the instruction after it and `sp` to its value,
wherever the stack lies. -/
def Obligations.CallReturnRoundTrip : Prop :=
  ∀ (s t : State) (w : Word) (n : Nat) (cond back : Cond) (i r : Instr),
    (i ∈ [Instr.call w, .callDD w, .callED w, .callFD w, rstInstr n] ∨ i = callIfInstr cond w ∧ condTrue s.flags cond) →
    (r ∈ [Instr.ret, .retD9] ∨ r = returnIfInstr back ∧ condTrue t.flags back) → exec i s = .next t →
    ∃ u, exec r t = .next u ∧ u.pc = s.pc + BitVec.ofNat 16 i.length ∧ u.sp = s.sp ∧ u.regs = s.regs ∧ u.flags = s.flags

/-! ## Stack, ports, machine control -/

/-- R200 and R201: `PUSH`, with the packed flag byte of R90 for `PSW`. -/
def Obligations.Pushes : Prop :=
  ∀ s : State,
    let pushed := fun (i : Instr) (high low : Byte) =>
      ∃ t, exec i s = .next t ∧ t = { s with mem := t.mem, sp := s.sp - 2, pc := s.pc + 1 } ∧
        storesWord s t (s.sp - 2) high low
    let bit := fun (f : Bool) (weight : Nat) => if f then weight else 0
    [Instr.pushB, .pushD, .pushH, .pushPsw].map encode = [[0xC5], [0xD5], [0xE5], [0xF5]] ∧
    pushed .pushB s.regs.b s.regs.c ∧ pushed .pushD s.regs.d s.regs.e ∧ pushed .pushH s.regs.h s.regs.l ∧
    pushed .pushPsw s.regs.a
      (byte (bit s.flags.cy 1 + 2 + bit s.flags.p 4 + bit s.flags.ac 16 + bit s.flags.z 64 + bit s.flags.s 128))

/-- R202: `POP B`, `POP D`, `POP H`. -/
def Obligations.Pops : Prop :=
  ∀ s : State,
    let low := s.readByte s.sp
    let high := s.readByte (s.sp + 1)
    [Instr.popB, .popD, .popH].map encode = [[0xC1], [0xD1], [0xE1]] ∧
    exec .popB s = .next { s with regs := { s.regs with b := high, c := low }, sp := s.sp + 2, pc := s.pc + 1 } ∧
    exec .popD s = .next { s with regs := { s.regs with d := high, e := low }, sp := s.sp + 2, pc := s.pc + 1 } ∧
    exec .popH s = .next { s with regs := { s.regs with h := high, l := low }, sp := s.sp + 2, pc := s.pc + 1 }

/-- R203 with the unpacking of R91: `POP PSW`; `PUSH PSW` then `POP PSW` restores the accumulator and the five flags, wherever the
stack lies; unpacking what was packed changes no flag, and packing what was unpacked from a byte gives `(b & 0xD5) | 0x02`. -/
def Obligations.PopPswAndRoundTrip : Prop :=
  (∀ s : State, encode .popPsw = [0xF1] ∧
    let low := (s.readByte s.sp).toNat
    exec .popPsw s =
      .next { s with regs := { s.regs with a := s.readByte (s.sp + 1) }, sp := s.sp + 2, pc := s.pc + 1,
                     flags := { cy := low.testBit 0, p := low.testBit 2, ac := low.testBit 4, z := low.testBit 6,
                                s := low.testBit 7 } }) ∧
  (∀ s t : State, exec .pushPsw s = .next t →
    ∃ u, exec .popPsw t = .next u ∧ u.regs = s.regs ∧ u.flags = s.flags ∧ u.sp = s.sp) ∧
  (∀ f : Flags, unpackFlags (packFlags f) = f) ∧
  (∀ b : Byte, packFlags (unpackFlags b) = (b &&& 0xD5) ||| 0x02)

/-- R204: `XTHL`; `sp` stays. -/
def Obligations.ExchangeWithTheStackTop : Prop :=
  ∀ s : State, encode .xthl = [0xE3] ∧
    ∃ t, exec .xthl s = .next t ∧
      t = { s with mem := t.mem, regs := { s.regs with l := s.readByte s.sp, h := s.readByte (s.sp + 1) }, pc := s.pc + 1 } ∧
      storesWord s t s.sp s.regs.h s.regs.l

/-- R206 with R231 to R233, R236 and R241: what `IN` puts in the accumulator from each port. From a port the spec does not list it is
some byte, about which nothing is said, and the instruction completes. Nothing is said of the model's own count of draws. -/
def Obligations.InputPorts : Prop :=
  ∀ (port : Byte) (s : State),
    encode (.inPort port) = [0xDB, port] ∧
    ∃ t, exec (.inPort port) s = .next t ∧
      t = { s with regs := { s.regs with a := t.regs.a }, pc := s.pc + 2, draws := t.draws } ∧
      (port = 1 → t.regs.a = s.bridge.port1) ∧
      (port = 2 → t.regs.a = s.bridge.port2) ∧
      (port = 3 → t.regs.a.toNat =
        (s.bridge.shift1.toNat * 256 + s.bridge.shift0.toNat) / 2 ^ (8 - s.bridge.shiftOffset.toNat) % 256)

/-- R207 with R234, R235 and R237 to R239: what `OUT` does to the bridge, port by port. -/
def Obligations.OutputPorts : Prop :=
  ∀ (port : Byte) (s : State),
    let v := s.regs.a
    let b := s.bridge
    encode (.outPort port) = [0xD3, port] ∧
    exec (.outPort port) s = .next { s with pc := s.pc + 2, bridge :=
      (if port = 2 then { b with shiftOffset := BitVec.ofNat 3 (v.toNat % 8) }
       else if port = 3 then { b with outPort3 := v, outPort3Prev := b.outPort3 }
       else if port = 4 then { b with shift0 := b.shift1, shift1 := v }
       else if port = 5 then { b with outPort5 := v, outPort5Prev := b.outPort5 }
       else b) }

/-- R233 to R235 together (the source's shift-register property, for all bytes): after two `OUT 4` of `v1` then `v2` and an
`OUT 2` of `k`, whatever else happens to the other state between them, `IN 3` reads bits `15 - k` to `8 - k` of `v2 * 256 + v1`. -/
def Obligations.ShiftRegisterWindow : Prop :=
  ∀ (s0 s1 s2 s3 t1 t2 t3 t4 : State),
    exec (.outPort 4) s0 = .next t1 → s1.bridge = t1.bridge → exec (.outPort 4) s1 = .next t2 → s2.bridge = t2.bridge →
    exec (.outPort 2) s2 = .next t3 → s3.bridge = t3.bridge → exec (.inPort 3) s3 = .next t4 →
    t4.regs.a.toNat = (s1.regs.a.toNat * 256 + s0.regs.a.toNat) * 2 ^ (s2.regs.a.toNat % 8) / 256 % 256

/-- R208, R209 and R210: `EI`, `DI`, `HLT`, each effective at once: a request right after `EI` is serviced, one right after `DI` is
not, a step right after `HLT` does nothing. That the host's next action is in the state is the model's (log entry 5). -/
def Obligations.EnableDisableHalt : Prop :=
  ∀ (s : State) (later : List HostAction),
    [Instr.ei, .di, .hlt].map encode = [[0xFB], [0xF3], [0x76]] ∧
    exec .ei s = .next { s with intEnable := true, pc := s.pc + 1 } ∧
    exec .di s = .next { s with intEnable := false, pc := s.pc + 1 } ∧
    exec .hlt s = .next { s with halted := true, pc := s.pc + 1 } ∧
    (s.schedule = .interrupt :: later →
      (∃ t u, exec .ei s = .next t ∧ step t = .next u ∧ u.pc = (if s.interruptNumber = .one then 0x0008 else 0x0010) ∧
        u.sp = s.sp - 2 ∧ u.intEnable = false) ∧
      ∃ t, exec .di s = .next t ∧ step t = .next { t with schedule := later }) ∧
    (s.schedule = .step :: later → ∃ t, exec .hlt s = .next t ∧ step t = .next { t with schedule := later })

/-- R211 and R212: `NOP` and its alias bytes `nop08 nop10 nop18 nop20 nop28 nop30 nop38` change `pc` and nothing else. -/
def Obligations.NoOperations : Prop :=
  ∀ (n : Nat) (s : State), n < 8 →
    encode (nopInstr n) = [byte (8 * n)] ∧ exec (nopInstr n) s = .next { s with pc := s.pc + 1 }
end

