-- ==== Sys2Proof/Laws/Decode.lean ====
section
/-! SUPPORT. The decoder by opcode byte: how long each opcode is, which operand bytes it looks at, and what its instruction encodes
to. -/

namespace Sys2Proof

/-- A fact about all bytes, from its 256 cases. -/
theorem forall_byte {P : Byte → Prop} (h : ∀ n < 256, P (BitVec.ofNat 8 n)) (op : Byte) : P op := by
  simpa using h op.toNat op.isLt

theorem opcodeLength_cases (op : Byte) : opcodeLength op = 1 ∨ opcodeLength op = 2 ∨ opcodeLength op = 3 := by
  unfold opcodeLength
  split
  · simp
  · split <;> simp

/-- What an opcode byte and two more bytes decode to has as its bytes the first of the three. -/
theorem encode_decodeBytes (op b1 b2 : Byte) : encode (decodeBytes op b1 b2) = [op, b1, b2].take (opcodeLength op) := by
  have shape : encode (decodeBytes op b1 b2) = [op, b1, b2].take (opcodeLength op) ∨
      encode (decodeBytes op b1 b2) = [op, loByte (mkWord b2 b1), hiByte (mkWord b2 b1)] ∧ opcodeLength op = 3 := by
    revert op
    apply forall_byte
    intro n hn
    interval_cases n <;> first | exact .inl rfl | exact .inr ⟨rfl, rfl⟩
  rcases shape with h | ⟨h, h3⟩
  · exact h
  · simp [h, h3]

/-- An opcode of at most two bytes does not look at the third. -/
theorem decodeBytes_of_length_le_two {op : Byte} (b1 b2 : Byte) (h : opcodeLength op ≤ 2) :
    decodeBytes op b1 b2 = decodeBytes op b1 0 := by
  revert h op
  apply forall_byte
  intro n hn
  interval_cases n <;> first | exact fun _ => rfl | exact fun h => absurd h (by decide)

/-- An opcode of one byte looks at no other. -/
theorem decodeBytes_of_length_le_one {op : Byte} (b1 b2 : Byte) (h : opcodeLength op ≤ 1) :
    decodeBytes op b1 b2 = decodeBytes op 0 0 := by
  revert h op
  apply forall_byte
  intro n hn
  interval_cases n <;> first | exact fun _ => rfl | exact fun h => absurd h (by decide)

/-- The list decoder on three bytes or more gives what `decodeBytes` gives. -/
theorem decode_three (op b1 b2 : Byte) (rest : List Byte) :
    decode (op :: b1 :: b2 :: rest) = .ok (decodeBytes op b1 b2, (b1 :: b2 :: rest).drop (opcodeLength op - 1)) := by
  rcases opcodeLength_cases op with hl | hl | hl <;> simp only [decode, hl]
  · rw [decodeBytes_of_length_le_one b1 b2 (by omega)]; rfl
  · rw [decodeBytes_of_length_le_two b1 b2 (by omega)]; rfl
  · rfl

end Sys2Proof
end

