-- ==== Sys2Proof/Laws/Flags.lean ====
section
/-! SUPPORT. The flag engine as numbers: what each flag of a result says, and the results of the 8-bit operations. -/

namespace Sys2Proof.Machine

/-! ## Zero, sign, parity -/

theorem setZSP_z (v : Byte) (f : Flags) : (setZSP v f).z = true ↔ v.toNat = 0 := by
  simp only [setZSP, decide_eq_true_eq, ← BitVec.toNat_inj]; rfl

theorem setZSP_s (v : Byte) (f : Flags) : (setZSP v f).s = true ↔ 128 ≤ v.toNat := by
  show v.getMsbD 0 = true ↔ _
  rw [← BitVec.msb, BitVec.msb_eq_decide]
  simp

/-- The parity flag counts the 1 bits of the number. -/
theorem setZSP_p (v : Byte) (f : Flags) :
    (setZSP v f).p = true ↔ ((List.range 8).countP fun k => v.toNat.testBit k) % 2 = 0 := by
  have hb : ∀ k, v.toNat.testBit k = v.getLsbD k := fun _ => rfl
  have hp : (setZSP v f).p = true ↔ popcount v % 2 = 0 := decide_eq_true_iff
  rw [hp]
  simp only [popcount, List.range, List.range.loop, List.countP_cons, List.countP_nil, hb]
  generalize v.getLsbD 0 = b0, v.getLsbD 1 = b1, v.getLsbD 2 = b2, v.getLsbD 3 = b3
  generalize v.getLsbD 4 = b4, v.getLsbD 5 = b5, v.getLsbD 6 = b6, v.getLsbD 7 = b7
  revert b0 b1 b2 b3 b4 b5 b6 b7
  decide

@[simp] theorem setZSP_cy (v : Byte) (f : Flags) : (setZSP v f).cy = f.cy := rfl
@[simp] theorem setZSP_ac (v : Byte) (f : Flags) : (setZSP v f).ac = f.ac := rfl
@[simp] theorem flagsOf_cy (v : Byte) (cy ac : Bool) : (flagsOf v cy ac).cy = cy := rfl
@[simp] theorem flagsOf_ac (v : Byte) (cy ac : Bool) : (flagsOf v cy ac).ac = ac := rfl

/-! ## Results and carries -/

theorem add8_toNat (a b : Byte) (cin : Bool) : (add8 a b cin).1.toNat = (a.toNat + b.toNat + cin.toNat) % 256 := by
  simp [add8]

theorem add8_cy (a b : Byte) (cin : Bool) : (add8 a b cin).2.cy = true ↔ 0xFF < a.toNat + b.toNat + cin.toNat := by
  simp [add8]

theorem add8_ac (a b : Byte) (cin : Bool) :
    (add8 a b cin).2.ac = true ↔ 0xF < a.toNat % 16 + b.toNat % 16 + cin.toNat := by
  simp [add8, lowNibble]

theorem sub8_toNat (a b : Byte) (bin : Bool) :
    ((sub8 a b bin).1.toNat : Int) = ((a.toNat : Int) - b.toNat - bin.toNat) % 256 := by
  simp only [sub8, BitVec.toNat_ofInt]
  omega

theorem sub8_cy (a b : Byte) (bin : Bool) : (sub8 a b bin).2.cy = true ↔ a.toNat < b.toNat + bin.toNat := by
  rw [show (sub8 a b bin).2.cy = true ↔ (a.toNat : Int) - b.toNat - bin.toNat < 0 from decide_eq_true_iff]
  omega

theorem sub8_ac (a b : Byte) (bin : Bool) :
    (sub8 a b bin).2.ac = true ↔ a.toNat % 16 < b.toNat % 16 + bin.toNat := by
  rw [show (sub8 a b bin).2.ac = true ↔ (lowNibble a : Int) - lowNibble b - bin.toNat < 0 from decide_eq_true_iff]
  simp only [lowNibble]
  omega

theorem add8_flags (a b : Byte) (cin : Bool) :
    (add8 a b cin).2 = flagsOf (add8 a b cin).1 (add8 a b cin).2.cy (add8 a b cin).2.ac := rfl

theorem sub8_flags (a b : Byte) (bin : Bool) :
    (sub8 a b bin).2 = flagsOf (sub8 a b bin).1 (sub8 a b bin).2.cy (sub8 a b bin).2.ac := rfl

theorem increment_toNat (v : Byte) (f : Flags) : (increment v f).1.toNat = (v.toNat + 1) % 256 := by
  simp [increment, BitVec.toNat_add]

theorem decrement_toNat (v : Byte) (f : Flags) : (decrement v f).1.toNat = (v.toNat + 255) % 256 := by
  simp [decrement, BitVec.toNat_sub]
  omega

/-! ## Shifts of one bit -/

theorem getLsbD_toNat_zero (a : Byte) : (a.getLsbD 0).toNat = a.toNat % 2 := by
  simp only [BitVec.getLsbD, Nat.testBit_zero]
  rcases Nat.mod_two_eq_zero_or_one a.toNat with h | h <;> simp [h]

theorem bitAt_toNat (b : Bool) {k : Nat} (h : k < 8) : (bitAt b k).toNat = b.toNat * 2 ^ k := by
  have : 2 ^ k < 2 ^ 8 := Nat.pow_lt_pow_right (by decide) h
  cases b <;> simp [bitAt]; omega

end Sys2Proof.Machine
end

