-- ==== Sys2Proof/Laws/Forms.lean ====
section
/-! SUPPORT. What a meaning can do, said once: the 256 opcodes are 43 forms, each meaning answers a next state, and that state is
one shared operation applied to the operands of the form. Later proofs split on the form, not on the opcode. -/

namespace Sys2Proof.Machine

/-- An instruction with its fields apart from its operation. -/
inductive Form
  | mov (dst src : Operand)
  | mvi (dst : Operand) (d8 : Byte)
  | lxi (p : Pair) (d16 : Word)
  | lda (a16 : Word)
  | sta (a16 : Word)
  | lhld (a16 : Word)
  | shld (a16 : Word)
  | ldax (p : BasePair)
  | stax (p : BasePair)
  | xchg
  | alu (op : AluOp) (src : Operand)
  | aluImm (op : AluOp) (d8 : Byte)
  | inr (o : Operand)
  | dcr (o : Operand)
  | inx (p : Pair)
  | dcx (p : Pair)
  | dad (p : Pair)
  | daa
  | rlc
  | rrc
  | ral
  | rar
  | cma
  | cmc
  | stc
  | jmp (a16 : Word)
  | jumpIf (cond : Cond) (a16 : Word)
  | pchl
  | call (a16 : Word)
  | callIf (cond : Cond) (a16 : Word)
  | ret
  | returnIf (cond : Cond)
  | rst (n : Nat)
  | push (p : StackPair)
  | pop (p : StackPair)
  | xthl
  | sphl
  | input (port : Byte)
  | output (port : Byte)
  | ei
  | di
  | hlt
  | nop

/-- The form of an instruction. -/
def Form.of : Instr → Form
  | .nop => .nop
  | .lxiB d16 => .lxi .b d16
  | .staxB => .stax .b
  | .inxB => .inx .b
  | .inrB => .inr (.reg .b)
  | .dcrB => .dcr (.reg .b)
  | .mviB d8 => .mvi (.reg .b) d8
  | .rlc => .rlc
  | .nop08 => .nop
  | .dadB => .dad .b
  | .ldaxB => .ldax .b
  | .dcxB => .dcx .b
  | .inrC => .inr (.reg .c)
  | .dcrC => .dcr (.reg .c)
  | .mviC d8 => .mvi (.reg .c) d8
  | .rrc => .rrc
  | .nop10 => .nop
  | .lxiD d16 => .lxi .d d16
  | .staxD => .stax .d
  | .inxD => .inx .d
  | .inrD => .inr (.reg .d)
  | .dcrD => .dcr (.reg .d)
  | .mviD d8 => .mvi (.reg .d) d8
  | .ral => .ral
  | .nop18 => .nop
  | .dadD => .dad .d
  | .ldaxD => .ldax .d
  | .dcxD => .dcx .d
  | .inrE => .inr (.reg .e)
  | .dcrE => .dcr (.reg .e)
  | .mviE d8 => .mvi (.reg .e) d8
  | .rar => .rar
  | .nop20 => .nop
  | .lxiH d16 => .lxi .h d16
  | .shld a16 => .shld a16
  | .inxH => .inx .h
  | .inrH => .inr (.reg .h)
  | .dcrH => .dcr (.reg .h)
  | .mviH d8 => .mvi (.reg .h) d8
  | .daa => .daa
  | .nop28 => .nop
  | .dadH => .dad .h
  | .lhld a16 => .lhld a16
  | .dcxH => .dcx .h
  | .inrL => .inr (.reg .l)
  | .dcrL => .dcr (.reg .l)
  | .mviL d8 => .mvi (.reg .l) d8
  | .cma => .cma
  | .nop30 => .nop
  | .lxiSp d16 => .lxi .sp d16
  | .sta a16 => .sta a16
  | .inxSp => .inx .sp
  | .inrM => .inr .m
  | .dcrM => .dcr .m
  | .mviM d8 => .mvi .m d8
  | .stc => .stc
  | .nop38 => .nop
  | .dadSp => .dad .sp
  | .lda a16 => .lda a16
  | .dcxSp => .dcx .sp
  | .inrA => .inr (.reg .a)
  | .dcrA => .dcr (.reg .a)
  | .mviA d8 => .mvi (.reg .a) d8
  | .cmc => .cmc
  | .movBB => .mov (.reg .b) (.reg .b)
  | .movBC => .mov (.reg .b) (.reg .c)
  | .movBD => .mov (.reg .b) (.reg .d)
  | .movBE => .mov (.reg .b) (.reg .e)
  | .movBH => .mov (.reg .b) (.reg .h)
  | .movBL => .mov (.reg .b) (.reg .l)
  | .movBM => .mov (.reg .b) .m
  | .movBA => .mov (.reg .b) (.reg .a)
  | .movCB => .mov (.reg .c) (.reg .b)
  | .movCC => .mov (.reg .c) (.reg .c)
  | .movCD => .mov (.reg .c) (.reg .d)
  | .movCE => .mov (.reg .c) (.reg .e)
  | .movCH => .mov (.reg .c) (.reg .h)
  | .movCL => .mov (.reg .c) (.reg .l)
  | .movCM => .mov (.reg .c) .m
  | .movCA => .mov (.reg .c) (.reg .a)
  | .movDB => .mov (.reg .d) (.reg .b)
  | .movDC => .mov (.reg .d) (.reg .c)
  | .movDD => .mov (.reg .d) (.reg .d)
  | .movDE => .mov (.reg .d) (.reg .e)
  | .movDH => .mov (.reg .d) (.reg .h)
  | .movDL => .mov (.reg .d) (.reg .l)
  | .movDM => .mov (.reg .d) .m
  | .movDA => .mov (.reg .d) (.reg .a)
  | .movEB => .mov (.reg .e) (.reg .b)
  | .movEC => .mov (.reg .e) (.reg .c)
  | .movED => .mov (.reg .e) (.reg .d)
  | .movEE => .mov (.reg .e) (.reg .e)
  | .movEH => .mov (.reg .e) (.reg .h)
  | .movEL => .mov (.reg .e) (.reg .l)
  | .movEM => .mov (.reg .e) .m
  | .movEA => .mov (.reg .e) (.reg .a)
  | .movHB => .mov (.reg .h) (.reg .b)
  | .movHC => .mov (.reg .h) (.reg .c)
  | .movHD => .mov (.reg .h) (.reg .d)
  | .movHE => .mov (.reg .h) (.reg .e)
  | .movHH => .mov (.reg .h) (.reg .h)
  | .movHL => .mov (.reg .h) (.reg .l)
  | .movHM => .mov (.reg .h) .m
  | .movHA => .mov (.reg .h) (.reg .a)
  | .movLB => .mov (.reg .l) (.reg .b)
  | .movLC => .mov (.reg .l) (.reg .c)
  | .movLD => .mov (.reg .l) (.reg .d)
  | .movLE => .mov (.reg .l) (.reg .e)
  | .movLH => .mov (.reg .l) (.reg .h)
  | .movLL => .mov (.reg .l) (.reg .l)
  | .movLM => .mov (.reg .l) .m
  | .movLA => .mov (.reg .l) (.reg .a)
  | .movMB => .mov .m (.reg .b)
  | .movMC => .mov .m (.reg .c)
  | .movMD => .mov .m (.reg .d)
  | .movME => .mov .m (.reg .e)
  | .movMH => .mov .m (.reg .h)
  | .movML => .mov .m (.reg .l)
  | .hlt => .hlt
  | .movMA => .mov .m (.reg .a)
  | .movAB => .mov (.reg .a) (.reg .b)
  | .movAC => .mov (.reg .a) (.reg .c)
  | .movAD => .mov (.reg .a) (.reg .d)
  | .movAE => .mov (.reg .a) (.reg .e)
  | .movAH => .mov (.reg .a) (.reg .h)
  | .movAL => .mov (.reg .a) (.reg .l)
  | .movAM => .mov (.reg .a) .m
  | .movAA => .mov (.reg .a) (.reg .a)
  | .addB => .alu .add (.reg .b)
  | .addC => .alu .add (.reg .c)
  | .addD => .alu .add (.reg .d)
  | .addE => .alu .add (.reg .e)
  | .addH => .alu .add (.reg .h)
  | .addL => .alu .add (.reg .l)
  | .addM => .alu .add .m
  | .addA => .alu .add (.reg .a)
  | .adcB => .alu .adc (.reg .b)
  | .adcC => .alu .adc (.reg .c)
  | .adcD => .alu .adc (.reg .d)
  | .adcE => .alu .adc (.reg .e)
  | .adcH => .alu .adc (.reg .h)
  | .adcL => .alu .adc (.reg .l)
  | .adcM => .alu .adc .m
  | .adcA => .alu .adc (.reg .a)
  | .subB => .alu .sub (.reg .b)
  | .subC => .alu .sub (.reg .c)
  | .subD => .alu .sub (.reg .d)
  | .subE => .alu .sub (.reg .e)
  | .subH => .alu .sub (.reg .h)
  | .subL => .alu .sub (.reg .l)
  | .subM => .alu .sub .m
  | .subA => .alu .sub (.reg .a)
  | .sbbB => .alu .sbb (.reg .b)
  | .sbbC => .alu .sbb (.reg .c)
  | .sbbD => .alu .sbb (.reg .d)
  | .sbbE => .alu .sbb (.reg .e)
  | .sbbH => .alu .sbb (.reg .h)
  | .sbbL => .alu .sbb (.reg .l)
  | .sbbM => .alu .sbb .m
  | .sbbA => .alu .sbb (.reg .a)
  | .anaB => .alu .ana (.reg .b)
  | .anaC => .alu .ana (.reg .c)
  | .anaD => .alu .ana (.reg .d)
  | .anaE => .alu .ana (.reg .e)
  | .anaH => .alu .ana (.reg .h)
  | .anaL => .alu .ana (.reg .l)
  | .anaM => .alu .ana .m
  | .anaA => .alu .ana (.reg .a)
  | .xraB => .alu .xra (.reg .b)
  | .xraC => .alu .xra (.reg .c)
  | .xraD => .alu .xra (.reg .d)
  | .xraE => .alu .xra (.reg .e)
  | .xraH => .alu .xra (.reg .h)
  | .xraL => .alu .xra (.reg .l)
  | .xraM => .alu .xra .m
  | .xraA => .alu .xra (.reg .a)
  | .oraB => .alu .ora (.reg .b)
  | .oraC => .alu .ora (.reg .c)
  | .oraD => .alu .ora (.reg .d)
  | .oraE => .alu .ora (.reg .e)
  | .oraH => .alu .ora (.reg .h)
  | .oraL => .alu .ora (.reg .l)
  | .oraM => .alu .ora .m
  | .oraA => .alu .ora (.reg .a)
  | .cmpB => .alu .cmp (.reg .b)
  | .cmpC => .alu .cmp (.reg .c)
  | .cmpD => .alu .cmp (.reg .d)
  | .cmpE => .alu .cmp (.reg .e)
  | .cmpH => .alu .cmp (.reg .h)
  | .cmpL => .alu .cmp (.reg .l)
  | .cmpM => .alu .cmp .m
  | .cmpA => .alu .cmp (.reg .a)
  | .rnz => .returnIf .nz
  | .popB => .pop .b
  | .jnz a16 => .jumpIf .nz a16
  | .jmp a16 => .jmp a16
  | .cnz a16 => .callIf .nz a16
  | .pushB => .push .b
  | .adi d8 => .aluImm .add d8
  | .rst0 => .rst 0
  | .rz => .returnIf .z
  | .ret => .ret
  | .jz a16 => .jumpIf .z a16
  | .jmpCB a16 => .jmp a16
  | .cz a16 => .callIf .z a16
  | .call a16 => .call a16
  | .aci d8 => .aluImm .adc d8
  | .rst1 => .rst 1
  | .rnc => .returnIf .nc
  | .popD => .pop .d
  | .jnc a16 => .jumpIf .nc a16
  | .outPort port => .output port
  | .cnc a16 => .callIf .nc a16
  | .pushD => .push .d
  | .sui d8 => .aluImm .sub d8
  | .rst2 => .rst 2
  | .rc => .returnIf .c
  | .retD9 => .ret
  | .jc a16 => .jumpIf .c a16
  | .inPort port => .input port
  | .cc a16 => .callIf .c a16
  | .callDD a16 => .call a16
  | .sbi d8 => .aluImm .sbb d8
  | .rst3 => .rst 3
  | .rpo => .returnIf .po
  | .popH => .pop .h
  | .jpo a16 => .jumpIf .po a16
  | .xthl => .xthl
  | .cpo a16 => .callIf .po a16
  | .pushH => .push .h
  | .ani d8 => .aluImm .ana d8
  | .rst4 => .rst 4
  | .rpe => .returnIf .pe
  | .pchl => .pchl
  | .jpe a16 => .jumpIf .pe a16
  | .xchg => .xchg
  | .cpe a16 => .callIf .pe a16
  | .callED a16 => .call a16
  | .xri d8 => .aluImm .xra d8
  | .rst5 => .rst 5
  | .rp => .returnIf .p
  | .popPsw => .pop .psw
  | .jp a16 => .jumpIf .p a16
  | .di => .di
  | .cp a16 => .callIf .p a16
  | .pushPsw => .push .psw
  | .ori d8 => .aluImm .ora d8
  | .rst6 => .rst 6
  | .rm => .returnIf .m
  | .sphl => .sphl
  | .jm a16 => .jumpIf .m a16
  | .ei => .ei
  | .cm a16 => .callIf .m a16
  | .callFD a16 => .call a16
  | .cpi d8 => .aluImm .cmp d8
  | .rst7 => .rst 7

/-- The operation of an arithmetic selector on an operand value, in an instruction of `n` bytes. -/
def aluEffect (op : AluOp) (v : Byte) (n : Nat) (s : State) : State :=
  match op with
  | .add => addOp v n s
  | .adc => adcOp v n s
  | .sub => subOp v n s
  | .sbb => sbbOp v n s
  | .ana => anaOp v n s
  | .xra => xraOp v n s
  | .ora => oraOp v n s
  | .cmp => cmpOp v n s

/-- The next state of a form. -/
def Form.effect (f : Form) (s : State) : State :=
  match f with
  | .mov dst src => movOp dst src s
  | .mvi dst v => mviOp dst v s
  | .lxi p v => lxiOp p v s
  | .lda v => ldaOp v s
  | .sta v => staOp v s
  | .lhld v => lhldOp v s
  | .shld v => shldOp v s
  | .ldax p => ldaxOp p s
  | .stax p => staxOp p s
  | .xchg => xchgOp s
  | .alu op src => aluEffect op (s.readOperand src) 1 s
  | .aluImm op v => aluEffect op v 2 s
  | .inr o => inrOp o s
  | .dcr o => dcrOp o s
  | .inx p => inxOp p s
  | .dcx p => dcxOp p s
  | .dad p => dadOp p s
  | .daa => daaOp s
  | .rlc => rlcOp s
  | .rrc => rrcOp s
  | .ral => ralOp s
  | .rar => rarOp s
  | .cma => cmaOp s
  | .cmc => cmcOp s
  | .stc => stcOp s
  | .jmp v => jmpOp v s
  | .jumpIf cond v => jumpIfOp cond v s
  | .pchl => pchlOp s
  | .call v => callOp v s
  | .callIf cond v => callIfOp cond v s
  | .ret => retOp s
  | .returnIf cond => returnIfOp cond s
  | .rst n => rstOp n s
  | .push p => pushOp p s
  | .pop p => popOp p s
  | .xthl => xthlOp s
  | .sphl => sphlOp s
  | .input port => inOp port s
  | .output port => outOp port s
  | .ei => eiOp s
  | .di => diOp s
  | .hlt => hltOp s
  | .nop => nopOp s

/-- Every meaning answers the next state of its instruction's form. -/
theorem exec_eq_effect (i : Instr) (s : State) : exec i s = .next ((Form.of i).effect s) := by cases i <;> rfl

/-- A step that is no host action and not halted runs the instruction at `pc`. -/
theorem runInstr_running {s : State} (h : s.halted = false) :
    runInstr s = .next ((Form.of (fetchInstr s)).effect s) := by
  simp [runInstr, h, exec_eq_effect]

/-- A halted step changes nothing (R284). -/
theorem runInstr_halted {s : State} (h : s.halted = true) : runInstr s = .next s := by simp [runInstr, h]

/-- What one step of an instruction can do: nothing, because the machine is halted, or the effect of the instruction at `pc`. -/
theorem runInstr_cases {s t : State} (h : runInstr s = .next t) :
    (s.halted = true ∧ t = s) ∨ (s.halted = false ∧ t = (Form.of (fetchInstr s)).effect s) := by
  cases hh : s.halted with
  | true => rw [runInstr_halted hh] at h; exact .inl ⟨rfl, by cases h; rfl⟩
  | false => rw [runInstr_running hh] at h; exact .inr ⟨rfl, by cases h; rfl⟩

/-- What one transition can do: an instruction step, or one action of the host's. -/
theorem step_cases {s t : State} (h : step s = .next t) :
    (s.schedule = [] ∧ runInstr s = .next t) ∨
    (∃ rest, s.schedule = .step :: rest ∧ runInstr (s.setSchedule rest) = .next t) ∨
    (∃ rest, s.schedule = .interrupt :: rest ∧ t = serviceInterrupt (s.setSchedule rest)) ∨
    (∃ v rest, s.schedule = .writePort1 v :: rest ∧
      t = (s.setSchedule rest).setBridge (s.bridge.setPort1 v)) ∨
    (∃ v rest, s.schedule = .writePort2 v :: rest ∧
      t = (s.setSchedule rest).setBridge (s.bridge.setPort2 v)) ∨
    (∃ l rest, s.schedule = .reset l :: rest ∧ t = launch l (s.setSchedule rest)) := by
  unfold step transition at h
  split at h
  · exact .inl ⟨‹_›, h⟩
  · rename_i a rest hs
    cases a <;> simp only [perform, Host.Outcome.next.injEq] at h
    · exact .inr (.inl ⟨rest, hs, h⟩)
    · exact .inr (.inr (.inl ⟨rest, hs, h.symm⟩))
    · exact .inr (.inr (.inr (.inl ⟨_, rest, hs, h.symm⟩)))
    · exact .inr (.inr (.inr (.inr (.inl ⟨_, rest, hs, h.symm⟩))))
    · exact .inr (.inr (.inr (.inr (.inr ⟨_, rest, hs, h.symm⟩))))

/-- With no action of the host left, a transition is an instruction step. -/
theorem step_eq_runInstr {s : State} (h : s.schedule = []) : step s = runInstr s := by simp [step, transition, h]

/-- With an action of the host next, a transition is that action. -/
theorem step_eq_perform {s : State} {a : HostAction} {rest : List HostAction} (h : s.schedule = a :: rest) :
    step s = perform a (s.setSchedule rest) := by simp [step, transition, h]

end Sys2Proof.Machine
end

