-- ==== Sys2Proof/Laws/State.lean ====
section
/-! SUPPORT. Each field of the state after each one-field update, and after the updates made of them. -/

namespace Sys2Proof.Machine

/-! ### `setRegs` -/

@[simp] theorem State.setRegs_regs (s : State) (v : Regs) : (s.setRegs v).regs = v := rfl
@[simp] theorem State.setRegs_sp (s : State) (v : Regs) : (s.setRegs v).sp = s.sp := rfl
@[simp] theorem State.setRegs_pc (s : State) (v : Regs) : (s.setRegs v).pc = s.pc := rfl
@[simp] theorem State.setRegs_flags (s : State) (v : Regs) : (s.setRegs v).flags = s.flags := rfl
@[simp] theorem State.setRegs_halted (s : State) (v : Regs) : (s.setRegs v).halted = s.halted := rfl
@[simp] theorem State.setRegs_intEnable (s : State) (v : Regs) : (s.setRegs v).intEnable = s.intEnable := rfl
@[simp] theorem State.setRegs_interruptNumber (s : State) (v : Regs) : (s.setRegs v).interruptNumber = s.interruptNumber := rfl
@[simp] theorem State.setRegs_bridge (s : State) (v : Regs) : (s.setRegs v).bridge = s.bridge := rfl
@[simp] theorem State.setRegs_mem (s : State) (v : Regs) : (s.setRegs v).mem = s.mem := rfl
@[simp] theorem State.setRegs_draws (s : State) (v : Regs) : (s.setRegs v).draws = s.draws := rfl
@[simp] theorem State.setRegs_schedule (s : State) (v : Regs) : (s.setRegs v).schedule = s.schedule := rfl

/-! ### `setSp` -/

@[simp] theorem State.setSp_regs (s : State) (v : Word) : (s.setSp v).regs = s.regs := rfl
@[simp] theorem State.setSp_sp (s : State) (v : Word) : (s.setSp v).sp = v := rfl
@[simp] theorem State.setSp_pc (s : State) (v : Word) : (s.setSp v).pc = s.pc := rfl
@[simp] theorem State.setSp_flags (s : State) (v : Word) : (s.setSp v).flags = s.flags := rfl
@[simp] theorem State.setSp_halted (s : State) (v : Word) : (s.setSp v).halted = s.halted := rfl
@[simp] theorem State.setSp_intEnable (s : State) (v : Word) : (s.setSp v).intEnable = s.intEnable := rfl
@[simp] theorem State.setSp_interruptNumber (s : State) (v : Word) : (s.setSp v).interruptNumber = s.interruptNumber := rfl
@[simp] theorem State.setSp_bridge (s : State) (v : Word) : (s.setSp v).bridge = s.bridge := rfl
@[simp] theorem State.setSp_mem (s : State) (v : Word) : (s.setSp v).mem = s.mem := rfl
@[simp] theorem State.setSp_draws (s : State) (v : Word) : (s.setSp v).draws = s.draws := rfl
@[simp] theorem State.setSp_schedule (s : State) (v : Word) : (s.setSp v).schedule = s.schedule := rfl

/-! ### `setPc` -/

@[simp] theorem State.setPc_regs (s : State) (v : Word) : (s.setPc v).regs = s.regs := rfl
@[simp] theorem State.setPc_sp (s : State) (v : Word) : (s.setPc v).sp = s.sp := rfl
@[simp] theorem State.setPc_pc (s : State) (v : Word) : (s.setPc v).pc = v := rfl
@[simp] theorem State.setPc_flags (s : State) (v : Word) : (s.setPc v).flags = s.flags := rfl
@[simp] theorem State.setPc_halted (s : State) (v : Word) : (s.setPc v).halted = s.halted := rfl
@[simp] theorem State.setPc_intEnable (s : State) (v : Word) : (s.setPc v).intEnable = s.intEnable := rfl
@[simp] theorem State.setPc_interruptNumber (s : State) (v : Word) : (s.setPc v).interruptNumber = s.interruptNumber := rfl
@[simp] theorem State.setPc_bridge (s : State) (v : Word) : (s.setPc v).bridge = s.bridge := rfl
@[simp] theorem State.setPc_mem (s : State) (v : Word) : (s.setPc v).mem = s.mem := rfl
@[simp] theorem State.setPc_draws (s : State) (v : Word) : (s.setPc v).draws = s.draws := rfl
@[simp] theorem State.setPc_schedule (s : State) (v : Word) : (s.setPc v).schedule = s.schedule := rfl

/-! ### `setFlags` -/

@[simp] theorem State.setFlags_regs (s : State) (v : Flags) : (s.setFlags v).regs = s.regs := rfl
@[simp] theorem State.setFlags_sp (s : State) (v : Flags) : (s.setFlags v).sp = s.sp := rfl
@[simp] theorem State.setFlags_pc (s : State) (v : Flags) : (s.setFlags v).pc = s.pc := rfl
@[simp] theorem State.setFlags_flags (s : State) (v : Flags) : (s.setFlags v).flags = v := rfl
@[simp] theorem State.setFlags_halted (s : State) (v : Flags) : (s.setFlags v).halted = s.halted := rfl
@[simp] theorem State.setFlags_intEnable (s : State) (v : Flags) : (s.setFlags v).intEnable = s.intEnable := rfl
@[simp] theorem State.setFlags_interruptNumber (s : State) (v : Flags) : (s.setFlags v).interruptNumber = s.interruptNumber := rfl
@[simp] theorem State.setFlags_bridge (s : State) (v : Flags) : (s.setFlags v).bridge = s.bridge := rfl
@[simp] theorem State.setFlags_mem (s : State) (v : Flags) : (s.setFlags v).mem = s.mem := rfl
@[simp] theorem State.setFlags_draws (s : State) (v : Flags) : (s.setFlags v).draws = s.draws := rfl
@[simp] theorem State.setFlags_schedule (s : State) (v : Flags) : (s.setFlags v).schedule = s.schedule := rfl

/-! ### `setHalted` -/

@[simp] theorem State.setHalted_regs (s : State) (v : Bool) : (s.setHalted v).regs = s.regs := rfl
@[simp] theorem State.setHalted_sp (s : State) (v : Bool) : (s.setHalted v).sp = s.sp := rfl
@[simp] theorem State.setHalted_pc (s : State) (v : Bool) : (s.setHalted v).pc = s.pc := rfl
@[simp] theorem State.setHalted_flags (s : State) (v : Bool) : (s.setHalted v).flags = s.flags := rfl
@[simp] theorem State.setHalted_halted (s : State) (v : Bool) : (s.setHalted v).halted = v := rfl
@[simp] theorem State.setHalted_intEnable (s : State) (v : Bool) : (s.setHalted v).intEnable = s.intEnable := rfl
@[simp] theorem State.setHalted_interruptNumber (s : State) (v : Bool) : (s.setHalted v).interruptNumber = s.interruptNumber := rfl
@[simp] theorem State.setHalted_bridge (s : State) (v : Bool) : (s.setHalted v).bridge = s.bridge := rfl
@[simp] theorem State.setHalted_mem (s : State) (v : Bool) : (s.setHalted v).mem = s.mem := rfl
@[simp] theorem State.setHalted_draws (s : State) (v : Bool) : (s.setHalted v).draws = s.draws := rfl
@[simp] theorem State.setHalted_schedule (s : State) (v : Bool) : (s.setHalted v).schedule = s.schedule := rfl

/-! ### `setIntEnable` -/

@[simp] theorem State.setIntEnable_regs (s : State) (v : Bool) : (s.setIntEnable v).regs = s.regs := rfl
@[simp] theorem State.setIntEnable_sp (s : State) (v : Bool) : (s.setIntEnable v).sp = s.sp := rfl
@[simp] theorem State.setIntEnable_pc (s : State) (v : Bool) : (s.setIntEnable v).pc = s.pc := rfl
@[simp] theorem State.setIntEnable_flags (s : State) (v : Bool) : (s.setIntEnable v).flags = s.flags := rfl
@[simp] theorem State.setIntEnable_halted (s : State) (v : Bool) : (s.setIntEnable v).halted = s.halted := rfl
@[simp] theorem State.setIntEnable_intEnable (s : State) (v : Bool) : (s.setIntEnable v).intEnable = v := rfl
@[simp] theorem State.setIntEnable_interruptNumber (s : State) (v : Bool) : (s.setIntEnable v).interruptNumber = s.interruptNumber := rfl
@[simp] theorem State.setIntEnable_bridge (s : State) (v : Bool) : (s.setIntEnable v).bridge = s.bridge := rfl
@[simp] theorem State.setIntEnable_mem (s : State) (v : Bool) : (s.setIntEnable v).mem = s.mem := rfl
@[simp] theorem State.setIntEnable_draws (s : State) (v : Bool) : (s.setIntEnable v).draws = s.draws := rfl
@[simp] theorem State.setIntEnable_schedule (s : State) (v : Bool) : (s.setIntEnable v).schedule = s.schedule := rfl

/-! ### `setInterruptNumber` -/

@[simp] theorem State.setInterruptNumber_regs (s : State) (v : InterruptNumber) : (s.setInterruptNumber v).regs = s.regs := rfl
@[simp] theorem State.setInterruptNumber_sp (s : State) (v : InterruptNumber) : (s.setInterruptNumber v).sp = s.sp := rfl
@[simp] theorem State.setInterruptNumber_pc (s : State) (v : InterruptNumber) : (s.setInterruptNumber v).pc = s.pc := rfl
@[simp] theorem State.setInterruptNumber_flags (s : State) (v : InterruptNumber) : (s.setInterruptNumber v).flags = s.flags := rfl
@[simp] theorem State.setInterruptNumber_halted (s : State) (v : InterruptNumber) : (s.setInterruptNumber v).halted = s.halted := rfl
@[simp] theorem State.setInterruptNumber_intEnable (s : State) (v : InterruptNumber) : (s.setInterruptNumber v).intEnable = s.intEnable := rfl
@[simp] theorem State.setInterruptNumber_interruptNumber (s : State) (v : InterruptNumber) : (s.setInterruptNumber v).interruptNumber = v := rfl
@[simp] theorem State.setInterruptNumber_bridge (s : State) (v : InterruptNumber) : (s.setInterruptNumber v).bridge = s.bridge := rfl
@[simp] theorem State.setInterruptNumber_mem (s : State) (v : InterruptNumber) : (s.setInterruptNumber v).mem = s.mem := rfl
@[simp] theorem State.setInterruptNumber_draws (s : State) (v : InterruptNumber) : (s.setInterruptNumber v).draws = s.draws := rfl
@[simp] theorem State.setInterruptNumber_schedule (s : State) (v : InterruptNumber) : (s.setInterruptNumber v).schedule = s.schedule := rfl

/-! ### `setBridge` -/

@[simp] theorem State.setBridge_regs (s : State) (v : Bridge) : (s.setBridge v).regs = s.regs := rfl
@[simp] theorem State.setBridge_sp (s : State) (v : Bridge) : (s.setBridge v).sp = s.sp := rfl
@[simp] theorem State.setBridge_pc (s : State) (v : Bridge) : (s.setBridge v).pc = s.pc := rfl
@[simp] theorem State.setBridge_flags (s : State) (v : Bridge) : (s.setBridge v).flags = s.flags := rfl
@[simp] theorem State.setBridge_halted (s : State) (v : Bridge) : (s.setBridge v).halted = s.halted := rfl
@[simp] theorem State.setBridge_intEnable (s : State) (v : Bridge) : (s.setBridge v).intEnable = s.intEnable := rfl
@[simp] theorem State.setBridge_interruptNumber (s : State) (v : Bridge) : (s.setBridge v).interruptNumber = s.interruptNumber := rfl
@[simp] theorem State.setBridge_bridge (s : State) (v : Bridge) : (s.setBridge v).bridge = v := rfl
@[simp] theorem State.setBridge_mem (s : State) (v : Bridge) : (s.setBridge v).mem = s.mem := rfl
@[simp] theorem State.setBridge_draws (s : State) (v : Bridge) : (s.setBridge v).draws = s.draws := rfl
@[simp] theorem State.setBridge_schedule (s : State) (v : Bridge) : (s.setBridge v).schedule = s.schedule := rfl

/-! ### `setMem` -/

@[simp] theorem State.setMem_regs (s : State) (v : Memory) : (s.setMem v).regs = s.regs := rfl
@[simp] theorem State.setMem_sp (s : State) (v : Memory) : (s.setMem v).sp = s.sp := rfl
@[simp] theorem State.setMem_pc (s : State) (v : Memory) : (s.setMem v).pc = s.pc := rfl
@[simp] theorem State.setMem_flags (s : State) (v : Memory) : (s.setMem v).flags = s.flags := rfl
@[simp] theorem State.setMem_halted (s : State) (v : Memory) : (s.setMem v).halted = s.halted := rfl
@[simp] theorem State.setMem_intEnable (s : State) (v : Memory) : (s.setMem v).intEnable = s.intEnable := rfl
@[simp] theorem State.setMem_interruptNumber (s : State) (v : Memory) : (s.setMem v).interruptNumber = s.interruptNumber := rfl
@[simp] theorem State.setMem_bridge (s : State) (v : Memory) : (s.setMem v).bridge = s.bridge := rfl
@[simp] theorem State.setMem_mem (s : State) (v : Memory) : (s.setMem v).mem = v := rfl
@[simp] theorem State.setMem_draws (s : State) (v : Memory) : (s.setMem v).draws = s.draws := rfl
@[simp] theorem State.setMem_schedule (s : State) (v : Memory) : (s.setMem v).schedule = s.schedule := rfl

/-! ### `setDraws` -/

@[simp] theorem State.setDraws_regs (s : State) (v : Nat) : (s.setDraws v).regs = s.regs := rfl
@[simp] theorem State.setDraws_sp (s : State) (v : Nat) : (s.setDraws v).sp = s.sp := rfl
@[simp] theorem State.setDraws_pc (s : State) (v : Nat) : (s.setDraws v).pc = s.pc := rfl
@[simp] theorem State.setDraws_flags (s : State) (v : Nat) : (s.setDraws v).flags = s.flags := rfl
@[simp] theorem State.setDraws_halted (s : State) (v : Nat) : (s.setDraws v).halted = s.halted := rfl
@[simp] theorem State.setDraws_intEnable (s : State) (v : Nat) : (s.setDraws v).intEnable = s.intEnable := rfl
@[simp] theorem State.setDraws_interruptNumber (s : State) (v : Nat) : (s.setDraws v).interruptNumber = s.interruptNumber := rfl
@[simp] theorem State.setDraws_bridge (s : State) (v : Nat) : (s.setDraws v).bridge = s.bridge := rfl
@[simp] theorem State.setDraws_mem (s : State) (v : Nat) : (s.setDraws v).mem = s.mem := rfl
@[simp] theorem State.setDraws_draws (s : State) (v : Nat) : (s.setDraws v).draws = v := rfl
@[simp] theorem State.setDraws_schedule (s : State) (v : Nat) : (s.setDraws v).schedule = s.schedule := rfl

/-! ### `setSchedule` -/

@[simp] theorem State.setSchedule_regs (s : State) (v : List HostAction) : (s.setSchedule v).regs = s.regs := rfl
@[simp] theorem State.setSchedule_sp (s : State) (v : List HostAction) : (s.setSchedule v).sp = s.sp := rfl
@[simp] theorem State.setSchedule_pc (s : State) (v : List HostAction) : (s.setSchedule v).pc = s.pc := rfl
@[simp] theorem State.setSchedule_flags (s : State) (v : List HostAction) : (s.setSchedule v).flags = s.flags := rfl
@[simp] theorem State.setSchedule_halted (s : State) (v : List HostAction) : (s.setSchedule v).halted = s.halted := rfl
@[simp] theorem State.setSchedule_intEnable (s : State) (v : List HostAction) : (s.setSchedule v).intEnable = s.intEnable := rfl
@[simp] theorem State.setSchedule_interruptNumber (s : State) (v : List HostAction) : (s.setSchedule v).interruptNumber = s.interruptNumber := rfl
@[simp] theorem State.setSchedule_bridge (s : State) (v : List HostAction) : (s.setSchedule v).bridge = s.bridge := rfl
@[simp] theorem State.setSchedule_mem (s : State) (v : List HostAction) : (s.setSchedule v).mem = s.mem := rfl
@[simp] theorem State.setSchedule_draws (s : State) (v : List HostAction) : (s.setSchedule v).draws = s.draws := rfl
@[simp] theorem State.setSchedule_schedule (s : State) (v : List HostAction) : (s.setSchedule v).schedule = v := rfl

/-! ### `advance` -/

@[simp] theorem State.advance_regs (s : State) (n : Nat) : (s.advance n).regs = s.regs := rfl
@[simp] theorem State.advance_sp (s : State) (n : Nat) : (s.advance n).sp = s.sp := rfl
@[simp] theorem State.advance_pc (s : State) (n : Nat) : (s.advance n).pc = s.pc + BitVec.ofNat 16 n := rfl
@[simp] theorem State.advance_flags (s : State) (n : Nat) : (s.advance n).flags = s.flags := rfl
@[simp] theorem State.advance_halted (s : State) (n : Nat) : (s.advance n).halted = s.halted := rfl
@[simp] theorem State.advance_intEnable (s : State) (n : Nat) : (s.advance n).intEnable = s.intEnable := rfl
@[simp] theorem State.advance_interruptNumber (s : State) (n : Nat) : (s.advance n).interruptNumber = s.interruptNumber := rfl
@[simp] theorem State.advance_bridge (s : State) (n : Nat) : (s.advance n).bridge = s.bridge := rfl
@[simp] theorem State.advance_mem (s : State) (n : Nat) : (s.advance n).mem = s.mem := rfl
@[simp] theorem State.advance_draws (s : State) (n : Nat) : (s.advance n).draws = s.draws := rfl
@[simp] theorem State.advance_schedule (s : State) (n : Nat) : (s.advance n).schedule = s.schedule := rfl

/-! ### `setA` -/

@[simp] theorem State.setA_regs (s : State) (v : Byte) : (s.setA v).regs = { s.regs with a := v } := rfl
@[simp] theorem State.setA_sp (s : State) (v : Byte) : (s.setA v).sp = s.sp := rfl
@[simp] theorem State.setA_pc (s : State) (v : Byte) : (s.setA v).pc = s.pc := rfl
@[simp] theorem State.setA_flags (s : State) (v : Byte) : (s.setA v).flags = s.flags := rfl
@[simp] theorem State.setA_halted (s : State) (v : Byte) : (s.setA v).halted = s.halted := rfl
@[simp] theorem State.setA_intEnable (s : State) (v : Byte) : (s.setA v).intEnable = s.intEnable := rfl
@[simp] theorem State.setA_interruptNumber (s : State) (v : Byte) : (s.setA v).interruptNumber = s.interruptNumber := rfl
@[simp] theorem State.setA_bridge (s : State) (v : Byte) : (s.setA v).bridge = s.bridge := rfl
@[simp] theorem State.setA_mem (s : State) (v : Byte) : (s.setA v).mem = s.mem := rfl
@[simp] theorem State.setA_draws (s : State) (v : Byte) : (s.setA v).draws = s.draws := rfl
@[simp] theorem State.setA_schedule (s : State) (v : Byte) : (s.setA v).schedule = s.schedule := rfl

/-! ### `setCy` -/

@[simp] theorem State.setCy_regs (s : State) (v : Bool) : (s.setCy v).regs = s.regs := rfl
@[simp] theorem State.setCy_sp (s : State) (v : Bool) : (s.setCy v).sp = s.sp := rfl
@[simp] theorem State.setCy_pc (s : State) (v : Bool) : (s.setCy v).pc = s.pc := rfl
@[simp] theorem State.setCy_flags (s : State) (v : Bool) : (s.setCy v).flags = { s.flags with cy := v } := rfl
@[simp] theorem State.setCy_halted (s : State) (v : Bool) : (s.setCy v).halted = s.halted := rfl
@[simp] theorem State.setCy_intEnable (s : State) (v : Bool) : (s.setCy v).intEnable = s.intEnable := rfl
@[simp] theorem State.setCy_interruptNumber (s : State) (v : Bool) : (s.setCy v).interruptNumber = s.interruptNumber := rfl
@[simp] theorem State.setCy_bridge (s : State) (v : Bool) : (s.setCy v).bridge = s.bridge := rfl
@[simp] theorem State.setCy_mem (s : State) (v : Bool) : (s.setCy v).mem = s.mem := rfl
@[simp] theorem State.setCy_draws (s : State) (v : Bool) : (s.setCy v).draws = s.draws := rfl
@[simp] theorem State.setCy_schedule (s : State) (v : Bool) : (s.setCy v).schedule = s.schedule := rfl

/-! ### `writeByte` -/

@[simp] theorem State.writeByte_regs (s : State) (addr : Word) (v : Byte) : (s.writeByte addr v).regs = s.regs := rfl
@[simp] theorem State.writeByte_sp (s : State) (addr : Word) (v : Byte) : (s.writeByte addr v).sp = s.sp := rfl
@[simp] theorem State.writeByte_pc (s : State) (addr : Word) (v : Byte) : (s.writeByte addr v).pc = s.pc := rfl
@[simp] theorem State.writeByte_flags (s : State) (addr : Word) (v : Byte) : (s.writeByte addr v).flags = s.flags := rfl
@[simp] theorem State.writeByte_halted (s : State) (addr : Word) (v : Byte) : (s.writeByte addr v).halted = s.halted := rfl
@[simp] theorem State.writeByte_intEnable (s : State) (addr : Word) (v : Byte) : (s.writeByte addr v).intEnable = s.intEnable := rfl
@[simp] theorem State.writeByte_interruptNumber (s : State) (addr : Word) (v : Byte) : (s.writeByte addr v).interruptNumber = s.interruptNumber := rfl
@[simp] theorem State.writeByte_bridge (s : State) (addr : Word) (v : Byte) : (s.writeByte addr v).bridge = s.bridge := rfl
@[simp] theorem State.writeByte_mem (s : State) (addr : Word) (v : Byte) : (s.writeByte addr v).mem = Memory.write s.mem addr v := rfl
@[simp] theorem State.writeByte_draws (s : State) (addr : Word) (v : Byte) : (s.writeByte addr v).draws = s.draws := rfl
@[simp] theorem State.writeByte_schedule (s : State) (addr : Word) (v : Byte) : (s.writeByte addr v).schedule = s.schedule := rfl

/-! ### `writeWord` -/

@[simp] theorem State.writeWord_regs (s : State) (addr v : Word) : (s.writeWord addr v).regs = s.regs := rfl
@[simp] theorem State.writeWord_sp (s : State) (addr v : Word) : (s.writeWord addr v).sp = s.sp := rfl
@[simp] theorem State.writeWord_pc (s : State) (addr v : Word) : (s.writeWord addr v).pc = s.pc := rfl
@[simp] theorem State.writeWord_flags (s : State) (addr v : Word) : (s.writeWord addr v).flags = s.flags := rfl
@[simp] theorem State.writeWord_halted (s : State) (addr v : Word) : (s.writeWord addr v).halted = s.halted := rfl
@[simp] theorem State.writeWord_intEnable (s : State) (addr v : Word) : (s.writeWord addr v).intEnable = s.intEnable := rfl
@[simp] theorem State.writeWord_interruptNumber (s : State) (addr v : Word) : (s.writeWord addr v).interruptNumber = s.interruptNumber := rfl
@[simp] theorem State.writeWord_bridge (s : State) (addr v : Word) : (s.writeWord addr v).bridge = s.bridge := rfl
@[simp] theorem State.writeWord_mem (s : State) (addr v : Word) : (s.writeWord addr v).mem = Memory.writeWord s.mem addr v := rfl
@[simp] theorem State.writeWord_draws (s : State) (addr v : Word) : (s.writeWord addr v).draws = s.draws := rfl
@[simp] theorem State.writeWord_schedule (s : State) (addr v : Word) : (s.writeWord addr v).schedule = s.schedule := rfl

end Sys2Proof.Machine
end

