-- ==== Sys2Proof/Laws/Memory.lean ====
section
/-! SUPPORT. Memory: what a read sees after a write, for every list whatever its order, and that every memory operation keeps
the canonical form. -/

namespace Sys2Proof.Machine

/-! ## Reading after writing -/

theorem Memory.lookup_drop (m : Memory) (k x : Nat) :
    Memory.lookup (Memory.drop k m) x = if x = k then Config.unlistedByte else Memory.lookup m x := by
  induction m with
  | nil => simp [Memory.drop, Memory.lookup]
  | cons e rest ih =>
    obtain ⟨k', v⟩ := e
    by_cases hk : k' = k
    · subst hk
      simp only [Memory.drop, if_true, ih, Memory.lookup]
      by_cases hx : x = k'
      · simp [hx]
      · simp [hx, Ne.symm hx]
    · simp only [Memory.drop, if_neg hk, Memory.lookup, ih]
      by_cases hx : x = k
      · subst hx; simp [hk]
      · simp [hx]

theorem Memory.lookup_place (m : Memory) (k x : Nat) (v : Byte) (h : Memory.lookup m k = Config.unlistedByte ∨ k ≠ x) :
    Memory.lookup (Memory.place k v m) x = if x = k then v else Memory.lookup m x := by
  induction m with
  | nil => simp only [Memory.place, Memory.lookup, eq_comm]
  | cons e rest ih =>
    obtain ⟨k', w⟩ := e
    by_cases hlt : k' < k
    · have hne : k' ≠ k := Nat.ne_of_lt hlt
      have ih' := ih (h.imp (fun hl => by simpa [Memory.lookup, hne] using hl) id)
      simp only [Memory.place, if_pos hlt, Memory.lookup, ih']
      by_cases hx : x = k
      · subst hx; simp [hne]
      · simp [hx]
    · simp only [Memory.place, if_neg hlt, Memory.lookup]
      by_cases hx : x = k
      · simp [hx]
      · simp [hx, Ne.symm hx]

/-- A write changes exactly the addressed byte (R44). -/
theorem Memory.read_write (m : Memory) (addr x : Word) (v : Byte) :
    Memory.read (Memory.write m addr v) x = if x = addr then v else Memory.read m x := by
  have hn : (x.toNat = addr.toNat) ↔ x = addr := BitVec.toNat_inj
  unfold Memory.read Memory.write
  split
  · next hv => rw [Memory.lookup_drop, hv]; simp [hn]
  · rw [Memory.lookup_place _ _ _ _ (.inl (by simp [Memory.lookup_drop])), Memory.lookup_drop]
    by_cases h : x = addr
    · simp [h]
    · simp [h, mt hn.1 h]

/-- A byte read where a byte was written. -/
@[simp] theorem Memory.read_write_same (m : Memory) (addr : Word) (v : Byte) :
    Memory.read (Memory.write m addr v) addr = v := by simp [Memory.read_write]

/-- A byte read elsewhere. -/
theorem Memory.read_write_other (m : Memory) {addr x : Word} (v : Byte) (h : x ≠ addr) :
    Memory.read (Memory.write m addr v) x = Memory.read m x := by simp [Memory.read_write, h]

/-- The bytes of memory after a word is written (R41). -/
theorem Memory.read_writeWord (m : Memory) (addr v x : Word) :
    Memory.read (Memory.writeWord m addr v) x =
      if x = addr + 1 then hiByte v else if x = addr then loByte v else Memory.read m x := by
  simp only [Memory.writeWord, Memory.read_write]

/-- The byte of the state's memory after a byte is written. -/
theorem State.readByte_writeByte (s : State) (addr x : Word) (v : Byte) :
    (s.writeByte addr v).readByte x = if x = addr then v else s.readByte x :=
  Memory.read_write s.mem addr x v

/-- The byte of the state's memory after a word is written. -/
theorem State.readByte_writeWord (s : State) (addr v x : Word) :
    (s.writeWord addr v).readByte x =
      if x = addr + 1 then hiByte v else if x = addr then loByte v else s.readByte x :=
  Memory.read_writeWord s.mem addr v x

/-! ## Bytes at addresses, and a loaded image -/

/-- After bytes written at addresses in order, an address reads the last byte listed for it, or as before. -/
theorem Memory.read_writeAll (m : Memory) (bs : List (Word × Byte)) (x : Word) :
    Memory.read (Memory.writeAll m bs) x = (bs.reverse.lookup x).getD (Memory.read m x) := by
  induction bs generalizing m with
  | nil => rfl
  | cons e bs ih =>
    rw [Memory.writeAll, ih, Memory.read_write, List.reverse_cons, List.lookup_append]
    cases bs.reverse.lookup x with
    | some v => rfl
    | none => by_cases h : x = e.1 <;> simp [List.lookup, h, beq_false_of_ne]

/-- An address the image does not cover reads as before. -/
theorem Memory.read_load_other (bs : List Byte) (m : Memory) (addr x : Word)
    (h : ∀ k < bs.length, x ≠ addr + BitVec.ofNat 16 k) : Memory.read (Memory.load m addr bs) x = Memory.read m x := by
  induction bs generalizing m addr with
  | nil => rfl
  | cons b bs ih =>
    have h0 := h 0 (by simp)
    rw [Memory.load, ih, Memory.read_write_other]
    · simpa using h0
    · intro k hk he
      exact h (k + 1) (by simpa using hk) (by rw [he]; bv_omega)

/-- Byte `k` of an image that fits the address space stands `k` above its first. -/
theorem Memory.read_load_at (bs : List Byte) (m : Memory) (addr : Word) (h : bs.length ≤ 65536) (k : Nat) (v : Byte)
    (hv : bs[k]? = some v) : Memory.read (Memory.load m addr bs) (addr + BitVec.ofNat 16 k) = v := by
  induction bs generalizing m addr k with
  | nil => simp at hv
  | cons b bs ih =>
    cases k with
    | zero =>
      simp only [List.getElem?_cons_zero, Option.some.injEq] at hv
      subst hv
      rw [Memory.load, Memory.read_load_other]
      · simp
      · intro k hk he
        simp only [List.length_cons] at h
        bv_omega
    | succ k =>
      simp only [List.getElem?_cons_succ, List.length_cons] at hv h
      have hat := ih (Memory.write m addr b) (addr + 1) (by omega) k hv
      have ha : addr + BitVec.ofNat 16 (k + 1) = addr + 1 + BitVec.ofNat 16 k := by bv_omega
      rw [Memory.load, ha, hat]

/-! ## The canonical form is kept -/

theorem Memory.wfFrom_mono {m : Memory} {low low' : Nat} (hl : low' ≤ low) (h : Memory.wfFrom low m = true) :
    Memory.wfFrom low' m = true := by
  cases m with
  | nil => rfl
  | cons e rest =>
    obtain ⟨k, v⟩ := e
    simp only [Memory.wfFrom, Bool.and_eq_true, decide_eq_true_eq] at h ⊢
    exact ⟨⟨⟨Nat.le_trans hl h.1.1.1, h.1.1.2⟩, h.1.2⟩, h.2⟩

theorem Memory.wfFrom_drop {m : Memory} {low : Nat} (k : Nat) (h : Memory.wfFrom low m = true) :
    Memory.wfFrom low (Memory.drop k m) = true := by
  induction m generalizing low with
  | nil => rfl
  | cons e rest ih =>
    obtain ⟨k', v⟩ := e
    simp only [Memory.wfFrom, Bool.and_eq_true, decide_eq_true_eq] at h
    by_cases hk : k' = k
    · simp only [Memory.drop, if_pos hk]
      exact Memory.wfFrom_mono (Nat.le_succ_of_le h.1.1.1) (ih h.2)
    · simp only [Memory.drop, if_neg hk, Memory.wfFrom, Bool.and_eq_true, decide_eq_true_eq]
      exact ⟨h.1, ih h.2⟩

/-- Placing an entry keeps the form if its address has none yet. -/
theorem Memory.wfFrom_place {m : Memory} {low k : Nat} {v : Byte} (hlow : low ≤ k) (hk : k < 65536)
    (hv : v ≠ Config.unlistedByte) (hfree : ∀ w, (k, w) ∉ m) (h : Memory.wfFrom low m = true) :
    Memory.wfFrom low (Memory.place k v m) = true := by
  induction m generalizing low with
  | nil => simp [Memory.place, Memory.wfFrom, hlow, hk, hv]
  | cons e rest ih =>
    obtain ⟨k', w⟩ := e
    simp only [Memory.wfFrom, Bool.and_eq_true, decide_eq_true_eq] at h
    by_cases hlt : k' < k
    · simp only [Memory.place, if_pos hlt, Memory.wfFrom, Bool.and_eq_true, decide_eq_true_eq]
      exact ⟨h.1, ih hlt (fun u hu => hfree u (List.mem_cons_of_mem _ hu)) h.2⟩
    · have hne : k' ≠ k := fun he => hfree w (by simp [he])
      simp only [Memory.place, if_neg hlt, Memory.wfFrom, Bool.and_eq_true, decide_eq_true_eq]
      exact ⟨⟨⟨hlow, hk⟩, hv⟩, ⟨⟨by omega, h.1.1.2⟩, h.1.2⟩, h.2⟩

theorem Memory.not_mem_drop (m : Memory) (k : Nat) (w : Byte) : (k, w) ∉ Memory.drop k m := by
  induction m with
  | nil => simp [Memory.drop]
  | cons e rest ih =>
    obtain ⟨k', v⟩ := e
    by_cases hk : k' = k
    · simp [Memory.drop, hk, ih]
    · simp [Memory.drop, hk, ih, Ne.symm hk]

theorem Memory.wf_write {m : Memory} (addr : Word) (v : Byte) (h : Memory.wf m = true) :
    Memory.wf (Memory.write m addr v) = true := by
  unfold Memory.write
  split
  · exact Memory.wfFrom_drop _ h
  · next hv =>
    exact Memory.wfFrom_place (Nat.zero_le _) addr.isLt hv (Memory.not_mem_drop _ _) (Memory.wfFrom_drop _ h)

theorem Memory.wf_writeWord {m : Memory} (addr v : Word) (h : Memory.wf m = true) :
    Memory.wf (Memory.writeWord m addr v) = true := Memory.wf_write _ _ (Memory.wf_write _ _ h)

theorem Memory.wf_writeAll {m : Memory} (bs : List (Word × Byte)) (h : Memory.wf m = true) :
    Memory.wf (Memory.writeAll m bs) = true := by
  induction bs generalizing m with
  | nil => exact h
  | cons e rest ih => exact ih (Memory.wf_write _ _ h)

theorem Memory.wf_load {m : Memory} (addr : Word) (bs : List Byte) (h : Memory.wf m = true) :
    Memory.wf (Memory.load m addr bs) = true := by
  induction bs generalizing m addr with
  | nil => exact h
  | cons e rest ih => exact ih _ (Memory.wf_write _ _ h)

/-- Memories in canonical form that read alike are equal: the form is one form. -/
theorem Memory.ext_of_wfFrom {m n : Memory} {low : Nat} (hm : Memory.wfFrom low m = true) (hn : Memory.wfFrom low n = true)
    (h : ∀ x, Memory.lookup m x = Memory.lookup n x) : m = n := by
  have below : ∀ (m : Memory) (low x : Nat), Memory.wfFrom low m = true → x < low → Memory.lookup m x = Config.unlistedByte := by
    intro m
    induction m with
    | nil => intros; rfl
    | cons e rest ih =>
      obtain ⟨k, v⟩ := e
      intro low x hw hx
      simp only [Memory.wfFrom, Bool.and_eq_true, decide_eq_true_eq] at hw
      have hne : k ≠ x := by omega
      simp only [Memory.lookup, if_neg hne]
      exact ih _ _ hw.2 (by omega)
  induction m generalizing n low with
  | nil =>
    cases n with
    | nil => rfl
    | cons e rest =>
      obtain ⟨k, v⟩ := e
      simp only [Memory.wfFrom, Bool.and_eq_true, decide_eq_true_eq] at hn
      exact absurd (by simpa [Memory.lookup] using (h k).symm) hn.1.2
  | cons e rest ih =>
    obtain ⟨k, v⟩ := e
    cases n with
    | nil =>
      simp only [Memory.wfFrom, Bool.and_eq_true, decide_eq_true_eq] at hm
      exact absurd (by simpa [Memory.lookup] using h k) hm.1.2
    | cons e' rest' =>
      obtain ⟨k', v'⟩ := e'
      simp only [Memory.wfFrom, Bool.and_eq_true, decide_eq_true_eq] at hm hn
      have hkk : k = k' := by
        rcases Nat.lt_trichotomy k k' with hlt | heq | hgt
        · have h1 := h k
          rw [Memory.lookup, if_pos rfl, Memory.lookup, if_neg (by omega), below _ _ _ hn.2 (by omega)] at h1
          exact absurd h1 hm.1.2
        · exact heq
        · have h1 := h k'
          rw [Memory.lookup, if_neg (by omega), below _ _ _ hm.2 (by omega), Memory.lookup, if_pos rfl] at h1
          exact absurd h1.symm hn.1.2
      subst hkk
      have hvv : v = v' := by simpa [Memory.lookup] using h k
      subst hvv
      have : rest = rest' := by
        refine ih hm.2 hn.2 fun x => ?_
        by_cases hx : k = x
        · subst hx; rw [below _ _ _ hm.2 (by omega), below _ _ _ hn.2 (by omega)]
        · simpa [Memory.lookup, hx] using h x
      rw [this]

end Sys2Proof.Machine
end

