-- ==== Sys2Proof/Laws/Ops.lean ====
section
/-! SUPPORT. The stack, interrupt, return, call and reset operations: each field after them, and the bytes they store. Callers
cite these and unfold none of them. -/

namespace Sys2Proof.Machine

/-! ## Words in memory -/

/-- The high byte of a pushed word stands one above its low byte. -/
theorem sub_one_eq (x : Word) : x - 1 = x - 2 + 1 := by bv_omega

theorem add_one_ne (x : Word) : x + 1 ≠ x := by bv_omega

/-- A word that was written is read back, whatever the address (R41, R45). -/
theorem State.readWord_writeWord (s : State) (addr v : Word) : (s.writeWord addr v).readWord addr = v := by
  simp [State.readWord, State.readByte_writeWord]

/-! ## Push and pop -/

@[simp] theorem push16_regs (s : State) (v : Word) : (push16 v s).regs = s.regs := rfl
@[simp] theorem push16_sp (s : State) (v : Word) : (push16 v s).sp = s.sp - 2 := rfl
@[simp] theorem push16_pc (s : State) (v : Word) : (push16 v s).pc = s.pc := rfl
@[simp] theorem push16_flags (s : State) (v : Word) : (push16 v s).flags = s.flags := rfl
@[simp] theorem push16_halted (s : State) (v : Word) : (push16 v s).halted = s.halted := rfl
@[simp] theorem push16_intEnable (s : State) (v : Word) : (push16 v s).intEnable = s.intEnable := rfl
@[simp] theorem push16_interruptNumber (s : State) (v : Word) : (push16 v s).interruptNumber = s.interruptNumber := rfl
@[simp] theorem push16_bridge (s : State) (v : Word) : (push16 v s).bridge = s.bridge := rfl
@[simp] theorem push16_draws (s : State) (v : Word) : (push16 v s).draws = s.draws := rfl
@[simp] theorem push16_schedule (s : State) (v : Word) : (push16 v s).schedule = s.schedule := rfl

/-- The bytes after a push: the low byte at the new `sp`, the high byte above it (R13). -/
theorem push16_readByte (s : State) (v x : Word) :
    (push16 v s).readByte x =
      if x = s.sp - 2 then loByte v else if x = s.sp - 2 + 1 then hiByte v else s.readByte x := by
  rw [← sub_one_eq]
  show Memory.read (Memory.write (Memory.write s.mem _ _) _ _) x = _
  rw [Memory.read_write, Memory.read_write]
  rfl

/-- The word on top of the stack after a push is the word pushed. -/
@[simp] theorem topWord_push16 (s : State) (v : Word) : topWord (push16 v s) = v := by
  show mkWord ((push16 v s).readByte (s.sp - 2 + 1)) ((push16 v s).readByte (s.sp - 2)) = v
  simp [push16_readByte]

/-- A pop after a push restores `sp`. -/
@[simp] theorem sub_two_add_two (x : Word) : x - 2 + 2 = x := by bv_omega

theorem wf_push16 {s : State} (v : Word) (h : Memory.wf s.mem = true) : Memory.wf (push16 v s).mem = true :=
  Memory.wf_write _ _ (Memory.wf_write _ _ h)

@[simp] theorem dropWord_regs (s : State) : (dropWord s).regs = s.regs := rfl
@[simp] theorem dropWord_sp (s : State) : (dropWord s).sp = s.sp + 2 := rfl
@[simp] theorem dropWord_pc (s : State) : (dropWord s).pc = s.pc := rfl
@[simp] theorem dropWord_flags (s : State) : (dropWord s).flags = s.flags := rfl
@[simp] theorem dropWord_halted (s : State) : (dropWord s).halted = s.halted := rfl
@[simp] theorem dropWord_intEnable (s : State) : (dropWord s).intEnable = s.intEnable := rfl
@[simp] theorem dropWord_interruptNumber (s : State) : (dropWord s).interruptNumber = s.interruptNumber := rfl
@[simp] theorem dropWord_bridge (s : State) : (dropWord s).bridge = s.bridge := rfl
@[simp] theorem dropWord_mem (s : State) : (dropWord s).mem = s.mem := rfl
@[simp] theorem dropWord_draws (s : State) : (dropWord s).draws = s.draws := rfl
@[simp] theorem dropWord_schedule (s : State) : (dropWord s).schedule = s.schedule := rfl

/-! ## Calls, returns, interrupts -/

@[simp] theorem callTo_regs (s : State) (target ret : Word) : (callTo target ret s).regs = s.regs := rfl
@[simp] theorem callTo_sp (s : State) (target ret : Word) : (callTo target ret s).sp = s.sp - 2 := rfl
@[simp] theorem callTo_pc (s : State) (target ret : Word) : (callTo target ret s).pc = target := rfl
@[simp] theorem callTo_flags (s : State) (target ret : Word) : (callTo target ret s).flags = s.flags := rfl
@[simp] theorem callTo_halted (s : State) (target ret : Word) : (callTo target ret s).halted = s.halted := rfl
@[simp] theorem callTo_intEnable (s : State) (target ret : Word) : (callTo target ret s).intEnable = s.intEnable := rfl
@[simp] theorem callTo_interruptNumber (s : State) (target ret : Word) : (callTo target ret s).interruptNumber = s.interruptNumber := rfl
@[simp] theorem callTo_bridge (s : State) (target ret : Word) : (callTo target ret s).bridge = s.bridge := rfl
@[simp] theorem callTo_mem (s : State) (target ret : Word) : (callTo target ret s).mem = (push16 ret s).mem := rfl
@[simp] theorem callTo_draws (s : State) (target ret : Word) : (callTo target ret s).draws = s.draws := rfl
@[simp] theorem callTo_schedule (s : State) (target ret : Word) : (callTo target ret s).schedule = s.schedule := rfl

@[simp] theorem returnTo_regs (s : State) : (returnTo s).regs = s.regs := rfl
@[simp] theorem returnTo_sp (s : State) : (returnTo s).sp = s.sp + 2 := rfl
@[simp] theorem returnTo_pc (s : State) : (returnTo s).pc = topWord s := rfl
@[simp] theorem returnTo_flags (s : State) : (returnTo s).flags = s.flags := rfl
@[simp] theorem returnTo_halted (s : State) : (returnTo s).halted = s.halted := rfl
@[simp] theorem returnTo_intEnable (s : State) : (returnTo s).intEnable = s.intEnable := rfl
@[simp] theorem returnTo_interruptNumber (s : State) : (returnTo s).interruptNumber = s.interruptNumber := rfl
@[simp] theorem returnTo_bridge (s : State) : (returnTo s).bridge = s.bridge := rfl
@[simp] theorem returnTo_mem (s : State) : (returnTo s).mem = s.mem := rfl
@[simp] theorem returnTo_draws (s : State) : (returnTo s).draws = s.draws := rfl
@[simp] theorem returnTo_schedule (s : State) : (returnTo s).schedule = s.schedule := rfl

/-- The return address of an interrupt is `pc` itself: the bias is 0 (R257, D2). -/
theorem takeInterrupt_eq (s : State) :
    takeInterrupt s =
      ((((push16 s.pc s).setHalted false).setPc (vectorOf s.interruptNumber)).setIntEnable false).setInterruptNumber
        (nextInterruptNumber s.interruptNumber) := by
  simp [takeInterrupt, intPushBias]

@[simp] theorem takeInterrupt_regs (s : State) : (takeInterrupt s).regs = s.regs := rfl
@[simp] theorem takeInterrupt_sp (s : State) : (takeInterrupt s).sp = s.sp - 2 := rfl
@[simp] theorem takeInterrupt_pc (s : State) : (takeInterrupt s).pc = vectorOf s.interruptNumber := rfl
@[simp] theorem takeInterrupt_flags (s : State) : (takeInterrupt s).flags = s.flags := rfl
@[simp] theorem takeInterrupt_halted (s : State) : (takeInterrupt s).halted = false := rfl
@[simp] theorem takeInterrupt_intEnable (s : State) : (takeInterrupt s).intEnable = false := rfl
@[simp] theorem takeInterrupt_interruptNumber (s : State) : (takeInterrupt s).interruptNumber = nextInterruptNumber s.interruptNumber := rfl
@[simp] theorem takeInterrupt_bridge (s : State) : (takeInterrupt s).bridge = s.bridge := rfl
@[simp] theorem takeInterrupt_draws (s : State) : (takeInterrupt s).draws = s.draws := rfl
@[simp] theorem takeInterrupt_schedule (s : State) : (takeInterrupt s).schedule = s.schedule := rfl
@[simp] theorem takeInterrupt_mem (s : State) : (takeInterrupt s).mem = (push16 s.pc s).mem := by rw [takeInterrupt_eq]; rfl

/-- The bytes after an accepted interrupt are those after a push of `pc`. -/
theorem takeInterrupt_readByte (s : State) (x : Word) : (takeInterrupt s).readByte x = (push16 s.pc s).readByte x := by
  simp only [State.readByte, takeInterrupt_mem]

/-- The word on top of the stack at the vector is the address of the instruction not yet executed (R191, R259). -/
@[simp] theorem topWord_takeInterrupt (s : State) : topWord (takeInterrupt s) = s.pc := by
  have h := topWord_push16 s s.pc
  simpa only [topWord, State.readWord, takeInterrupt_readByte, takeInterrupt_sp, push16_sp] using h

/-- A request with interrupts enabled is serviced (R257). -/
theorem serviceInterrupt_enabled {s : State} (h : s.intEnable = true) : serviceInterrupt s = takeInterrupt s := by
  simp [serviceInterrupt, h]

/-- A request with interrupts disabled changes nothing (R255). -/
theorem serviceInterrupt_disabled {s : State} (h : s.intEnable = false) : serviceInterrupt s = s := by
  simp [serviceInterrupt, h]

/-! ## Reset -/

@[simp] theorem launch_regs (s : State) (l : Launch) : (launch l s).regs = l.regs := rfl
@[simp] theorem launch_sp (s : State) (l : Launch) : (launch l s).sp = l.sp := rfl
@[simp] theorem launch_pc (s : State) (l : Launch) : (launch l s).pc = 0x0000 := rfl
@[simp] theorem launch_flags (s : State) (l : Launch) : (launch l s).flags = l.flags := rfl
@[simp] theorem launch_halted (s : State) (l : Launch) : (launch l s).halted = false := rfl
@[simp] theorem launch_intEnable (s : State) (l : Launch) : (launch l s).intEnable = false := rfl
@[simp] theorem launch_interruptNumber (s : State) (l : Launch) : (launch l s).interruptNumber = .one := rfl
@[simp] theorem launch_mem (s : State) (l : Launch) : (launch l s).mem = Memory.load (Memory.writeAll [] l.mem) 0x0000 l.image := rfl
@[simp] theorem launch_draws (s : State) (l : Launch) : (launch l s).draws = s.draws := rfl
@[simp] theorem launch_schedule (s : State) (l : Launch) : (launch l s).schedule = s.schedule := rfl

/-- A byte outside the image after a reset: what the launch values list for it, the last one if several. -/
theorem readByte_launch_outside (s : State) (l : Launch) (x : Word) (h : l.image.length ≤ x.toNat) :
    (launch l s).readByte x = (l.mem.reverse.lookup x).getD Config.unlistedByte := by
  rw [State.readByte, launch_mem, Memory.read_load_other, Memory.read_writeAll]
  · rfl
  · intro k hk he
    bv_omega

/-- The memory after a reset is in canonical form. -/
theorem wf_launch (s : State) (l : Launch) : Memory.wf (launch l s).mem = true :=
  Memory.wf_load _ _ (Memory.wf_writeAll _ rfl)

end Sys2Proof.Machine
end

