-- ==== Sys2Proof/Laws/Frames.lean ====
section
/-! SUPPORT. What each form of instruction leaves alone: flags, control and port state, bytes of memory, and the canonical form of
memory. -/

namespace Sys2Proof.Machine

/-! ## Canonical memory -/

/-- Every form keeps the canonical form of memory. -/
theorem Form.wf_effect (f : Form) (s : State) (h : Memory.wf s.mem = true) : Memory.wf (f.effect s).mem = true := by
  have hpush : ∀ v, Memory.wf (push16 v s).mem = true := fun v => wf_push16 v h
  have hop : ∀ o v, Memory.wf (s.writeOperand o v).mem = true := fun o v => by
    cases o with
    | reg r => exact h
    | m => exact Memory.wf_write _ _ h
  cases f with
  | mov d src => exact hop d _
  | mvi d v => exact hop d _
  | inr o => exact hop o _
  | dcr o => exact hop o _
  | sta w => exact Memory.wf_write _ _ h
  | stax p => exact Memory.wf_write _ _ h
  | shld w => exact Memory.wf_writeWord _ _ h
  | xthl => exact Memory.wf_writeWord _ _ h
  | push p => exact hpush _
  | call w => exact hpush _
  | rst n => exact hpush _
  | callIf cond w => simp only [Form.effect, callIfOp]; split; exacts [hpush _, h]
  | lxi p v => cases p <;> exact h
  | inx p => cases p <;> exact h
  | dcx p => cases p <;> exact h
  | pop p => cases p <;> exact h
  | alu op src => cases op <;> exact h
  | aluImm op v => cases op <;> exact h
  | jumpIf cond w => simp only [Form.effect, jumpIfOp]; split <;> exact h
  | returnIf cond => simp only [Form.effect, returnIfOp]; split <;> exact h
  | _ => exact h

/-! ## Flags -/

/-- The flags a form writes, `z s p cy ac` (R17). -/
def Form.flagMask : Form → Bool × Bool × Bool × Bool × Bool
  | .alu _ _ | .aluImm _ _ | .daa | .pop .psw => (true, true, true, true, true)
  | .inr _ | .dcr _ => (true, true, true, false, true)
  | .rlc | .rrc | .ral | .rar | .dad _ | .stc | .cmc => (false, false, false, true, false)
  | _ => (false, false, false, false, false)

/-- A flag outside the mask keeps its value (R93). -/
theorem Form.flags_outside_mask (f : Form) (s : State) :
    let w := f.flagMask
    let t := f.effect s
    (w.1 = false → t.flags.z = s.flags.z) ∧ (w.2.1 = false → t.flags.s = s.flags.s) ∧
    (w.2.2.1 = false → t.flags.p = s.flags.p) ∧ (w.2.2.2.1 = false → t.flags.cy = s.flags.cy) ∧
    (w.2.2.2.2 = false → t.flags.ac = s.flags.ac) := by
  cases f
  case pop p => cases p <;> simp [Form.flagMask, Form.effect, popOp, State.writeStackPair]
  case jumpIf => simp only [Form.effect, jumpIfOp]; split <;> simp
  case callIf => simp only [Form.effect, callIfOp]; split <;> simp [callOp]
  case returnIf => simp only [Form.effect, returnIfOp]; split <;> simp
  case inr o => cases o <;> simp [Form.flagMask, Form.effect, inrOp, increment, setZSP]
  case dcr o => cases o <;> simp [Form.flagMask, Form.effect, dcrOp, decrement, setZSP]
  case mov o _ => cases o <;> simp [Form.flagMask, Form.effect, movOp, State.writeOperand]
  case mvi o _ => cases o <;> simp [Form.flagMask, Form.effect, mviOp, State.writeOperand]
  case lxi o _ => cases o <;> simp [Form.flagMask, Form.effect, lxiOp, State.writePair]
  case inx o => cases o <;> simp [Form.flagMask, Form.effect, inxOp, State.writePair]
  case dcx o => cases o <;> simp [Form.flagMask, Form.effect, dcxOp, State.writePair]
  case alu o _ => simp [Form.flagMask]
  case aluImm o _ => simp [Form.flagMask]
  case daa => simp [Form.flagMask]
  all_goals first
    | exact ⟨fun _ => rfl, fun _ => rfl, fun _ => rfl, fun _ => rfl, fun _ => rfl⟩
    | exact ⟨fun _ => rfl, fun _ => rfl, fun _ => rfl, fun h => Bool.noConfusion h, fun _ => rfl⟩

/-! ## Control and port state -/

/-- Which form can touch which of the fields that no register or memory operand names. -/
theorem Form.control_frame (f : Form) (s : State) :
    let t := f.effect s
    t.bridge.port1 = s.bridge.port1 ∧ t.bridge.port2 = s.bridge.port2 ∧
    ((∀ p, f ≠ .output p) → t.bridge = s.bridge) ∧
    (f ≠ .hlt → t.halted = s.halted) ∧
    (f ≠ .ei → f ≠ .di → t.intEnable = s.intEnable) ∧
    t.interruptNumber = s.interruptNumber ∧ t.schedule = s.schedule ∧
    ((∀ p, f ≠ .input p) → t.draws = s.draws) := by
  cases f
  case pop p => cases p <;> simp [Form.effect, popOp, State.writeStackPair]
  case jumpIf => simp only [Form.effect, jumpIfOp]; split <;> simp
  case callIf => simp only [Form.effect, callIfOp]; split <;> simp [callOp]
  case returnIf => simp only [Form.effect, returnIfOp]; split <;> simp
  case inr o => cases o <;> simp [Form.effect, inrOp, State.writeOperand]
  case dcr o => cases o <;> simp [Form.effect, dcrOp, State.writeOperand]
  case mov o _ => cases o <;> simp [Form.effect, movOp, State.writeOperand]
  case mvi o _ => cases o <;> simp [ Form.effect, mviOp, State.writeOperand]
  case lxi o _ => cases o <;> simp [Form.effect, lxiOp, State.writePair]
  case inx o => cases o <;> simp [Form.effect, inxOp, State.writePair]
  case dcx o => cases o <;> simp [Form.effect, dcxOp, State.writePair]
  case alu o _ => cases o <;> exact ⟨rfl, rfl, fun _ => rfl, fun _ => rfl, fun _ _ => rfl, rfl, rfl, fun _ => rfl⟩
  case aluImm o _ => cases o <;> exact ⟨rfl, rfl, fun _ => rfl, fun _ => rfl, fun _ _ => rfl, rfl, rfl, fun _ => rfl⟩
  case output =>
    refine ⟨?_, ?_, fun h => absurd rfl (h _), fun _ => rfl, fun _ _ => rfl, rfl, rfl, fun _ => rfl⟩ <;> (simp only [Form.effect, outOp, State.advance_bridge, State.setBridge_bridge, portOut]; split_ifs <;> rfl)
  all_goals first
    | exact ⟨rfl, rfl, fun _ => rfl, fun _ => rfl, fun _ _ => rfl, rfl, rfl, fun _ => rfl⟩
    | exact ⟨rfl, rfl, fun _ => rfl, fun h => absurd rfl h, fun _ _ => rfl, rfl, rfl, fun _ => rfl⟩
    | exact ⟨rfl, rfl, fun _ => rfl, fun _ => rfl, fun h _ => absurd rfl h, rfl, rfl, fun _ => rfl⟩
    | exact ⟨rfl, rfl, fun _ => rfl, fun _ => rfl, fun _ h => absurd rfl h, rfl, rfl, fun _ => rfl⟩
    | exact ⟨rfl, rfl, fun _ => rfl, fun _ => rfl, fun _ _ => rfl, rfl, rfl, fun h => absurd rfl (h _)⟩

theorem Form.of_eq_output {i : Instr} {p : Byte} : Form.of i = .output p → i = .outPort p := by cases i <;> simp [Form.of]
theorem Form.of_eq_input {i : Instr} {p : Byte} : Form.of i = .input p → i = .inPort p := by cases i <;> simp [Form.of]
theorem Form.of_eq_hlt {i : Instr} : Form.of i = .hlt → i = .hlt := by cases i <;> simp [Form.of]
theorem Form.of_eq_ei {i : Instr} : Form.of i = .ei → i = .ei := by cases i <;> simp [Form.of]
theorem Form.of_eq_di {i : Instr} : Form.of i = .di → i = .di := by cases i <;> simp [Form.of]

/-! ## Bytes of memory -/

/-- The addresses a form stores to in a state. -/
def Form.stored (s : State) : Form → List Word
  | .mov .m _ | .mvi .m _ | .inr .m | .dcr .m => [s.hl]
  | .sta w => [w]
  | .shld w => [w, w + 1]
  | .stax p => [s.baseAddress p]
  | .xthl => [s.sp, s.sp + 1]
  | .push _ | .rst _ | .call _ => [s.sp - 1, s.sp - 2]
  | .callIf cond _ => if condHolds s.flags cond then [s.sp - 1, s.sp - 2] else []
  | _ => []

/-- A push changes its two bytes and no other. -/
theorem push16_readByte_other (s : State) (v x : Word) (h : x ∉ [s.sp - 1, s.sp - 2]) : (push16 v s).readByte x = s.readByte x := by
  rw [push16_readByte, ← sub_one_eq]
  simp at h
  simp [h]

/-- Every other byte reads as before (R44). -/
theorem Form.readByte_other (f : Form) (s : State) (x : Word) (h : x ∉ Form.stored s f) : (f.effect s).readByte x = s.readByte x := by
  cases f
  case pop p => cases p <;> rfl
  case jumpIf => simp only [Form.effect, jumpIfOp]; split <;> rfl
  case callIf cond w =>
    simp only [Form.effect, callIfOp]
    simp only [Form.stored] at h
    split
    · rename_i hc
      rw [if_pos hc] at h
      exact push16_readByte_other s _ x h
    · rfl
  case returnIf => simp only [Form.effect, returnIfOp]; split <;> rfl
  case call => exact push16_readByte_other s _ x h
  case push => exact push16_readByte_other s _ x h
  case rst => exact push16_readByte_other s _ x h
  case inr o => cases o with
     | reg => rfl
     | m => exact (State.readByte_writeByte s _ _ _).trans (if_neg (by simpa [Form.stored] using h))
  case dcr o => cases o with
     | reg => rfl
     | m => exact (State.readByte_writeByte s _ _ _).trans (if_neg (by simpa [Form.stored] using h))
  case mov o _ => cases o with
     | reg => rfl
     | m => exact (State.readByte_writeByte s _ _ _).trans (if_neg (by simpa [Form.stored] using h))
  case mvi o _ =>  cases o with
     | reg => rfl
     | m => exact (State.readByte_writeByte s _ _ _).trans (if_neg (by simpa [Form.stored] using h))
  case sta => exact (State.readByte_writeByte s _ _ _).trans (if_neg (by simpa [Form.stored] using h))
  case stax => exact (State.readByte_writeByte s _ _ _).trans (if_neg (by simpa [Form.stored] using h))
  case shld w =>
    simp [Form.stored] at h
    exact (State.readByte_writeWord s _ _ _).trans (by simp [h])
  case xthl =>
    simp [Form.stored] at h
    exact (State.readByte_writeWord s _ _ _).trans (by simp [h])
  case lxi o _ => cases o <;> rfl
  case inx o => cases o <;> rfl
  case dcx o => cases o <;> rfl
  case alu o _ => cases o <;> rfl
  case aluImm o _ => cases o <;> rfl
  all_goals rfl

end Sys2Proof.Machine
end

