-- ==== Sys2Proof/Laws/Operands.lean ====
section
/-! SUPPORT. Registers, operands and pairs: what is read after a write. -/

namespace Sys2Proof.Machine

@[simp] theorem Regs.get_set_same (g : Regs) (r : Reg) (v : Byte) : (g.set r v).get r = v := by cases r <;> rfl

/-- A write to one register changes no other (R10). -/
theorem Regs.get_set (g : Regs) (r r' : Reg) (v : Byte) : (g.set r v).get r' = if r' = r then v else g.get r' := by
  cases r <;> cases r' <;> rfl

@[simp] theorem Regs.bc_setBC (g : Regs) (v : Word) : (g.setBC v).bc = v := mkWord_hi_lo v
@[simp] theorem Regs.de_setDE (g : Regs) (v : Word) : (g.setDE v).de = v := mkWord_hi_lo v
@[simp] theorem Regs.hl_setHL (g : Regs) (v : Word) : (g.setHL v).hl = v := mkWord_hi_lo v

/-- A register operand is read back after it is written. -/
theorem State.readOperand_writeOperand_reg (s : State) (r : Reg) (v : Byte) :
    (s.writeOperand (.reg r) v).readOperand (.reg r) = v := Regs.get_set_same _ _ _

/-- The byte at `HL` is read back after it is written: a store moves no register. -/
theorem State.readOperand_writeOperand_m (s : State) (v : Byte) : (s.writeOperand .m v).readOperand .m = v :=
  (State.readByte_writeByte s s.hl s.hl v).trans (if_pos rfl)

/-- A pair is read back after it is written (R12). -/
theorem State.readPair_writePair (s : State) (p : Pair) (v : Word) : (s.writePair p v).readPair p = v := by
  cases p <;> simp [State.writePair, State.readPair]

end Sys2Proof.Machine
end

