-- ==== Sys2Proof/Laws/PerInstr.lean ====
section
/-! SUPPORT. One lemma per instruction: the shape of its encoding. -/

namespace Sys2Proof.Laws

/-- The bytes of an instruction are its opcode byte and as many operand bytes as R60 gives that opcode. -/
def EncodeShape.Statement (i : Instr) : Prop :=
  ∃ op operands, encode i = op :: operands ∧ (encode i).length = opcodeLength op

theorem EncodeShape.nop : EncodeShape.Statement .nop := ⟨_, _, rfl, rfl⟩
theorem EncodeShape.lxiB (d16 : Word) : EncodeShape.Statement (.lxiB d16) := ⟨_, _, rfl, rfl⟩
theorem EncodeShape.staxB : EncodeShape.Statement .staxB := ⟨_, _, rfl, rfl⟩
theorem EncodeShape.inxB : EncodeShape.Statement .inxB := ⟨_, _, rfl, rfl⟩
theorem EncodeShape.inrB : EncodeShape.Statement .inrB := ⟨_, _, rfl, rfl⟩
theorem EncodeShape.dcrB : EncodeShape.Statement .dcrB := ⟨_, _, rfl, rfl⟩
theorem EncodeShape.mviB (d8 : Byte) : EncodeShape.Statement (.mviB d8) := ⟨_, _, rfl, rfl⟩
theorem EncodeShape.rlc : EncodeShape.Statement .rlc := ⟨_, _, rfl, rfl⟩
theorem EncodeShape.nop08 : EncodeShape.Statement .nop08 := ⟨_, _, rfl, rfl⟩
theorem EncodeShape.dadB : EncodeShape.Statement .dadB := ⟨_, _, rfl, rfl⟩
theorem EncodeShape.ldaxB : EncodeShape.Statement .ldaxB := ⟨_, _, rfl, rfl⟩
theorem EncodeShape.dcxB : EncodeShape.Statement .dcxB := ⟨_, _, rfl, rfl⟩
theorem EncodeShape.inrC : EncodeShape.Statement .inrC := ⟨_, _, rfl, rfl⟩
theorem EncodeShape.dcrC : EncodeShape.Statement .dcrC := ⟨_, _, rfl, rfl⟩
theorem EncodeShape.mviC (d8 : Byte) : EncodeShape.Statement (.mviC d8) := ⟨_, _, rfl, rfl⟩
theorem EncodeShape.rrc : EncodeShape.Statement .rrc := ⟨_, _, rfl, rfl⟩
theorem EncodeShape.nop10 : EncodeShape.Statement .nop10 := ⟨_, _, rfl, rfl⟩
theorem EncodeShape.lxiD (d16 : Word) : EncodeShape.Statement (.lxiD d16) := ⟨_, _, rfl, rfl⟩
theorem EncodeShape.staxD : EncodeShape.Statement .staxD := ⟨_, _, rfl, rfl⟩
theorem EncodeShape.inxD : EncodeShape.Statement .inxD := ⟨_, _, rfl, rfl⟩
theorem EncodeShape.inrD : EncodeShape.Statement .inrD := ⟨_, _, rfl, rfl⟩
theorem EncodeShape.dcrD : EncodeShape.Statement .dcrD := ⟨_, _, rfl, rfl⟩
theorem EncodeShape.mviD (d8 : Byte) : EncodeShape.Statement (.mviD d8) := ⟨_, _, rfl, rfl⟩
theorem EncodeShape.ral : EncodeShape.Statement .ral := ⟨_, _, rfl, rfl⟩
theorem EncodeShape.nop18 : EncodeShape.Statement .nop18 := ⟨_, _, rfl, rfl⟩
theorem EncodeShape.dadD : EncodeShape.Statement .dadD := ⟨_, _, rfl, rfl⟩
theorem EncodeShape.ldaxD : EncodeShape.Statement .ldaxD := ⟨_, _, rfl, rfl⟩
theorem EncodeShape.dcxD : EncodeShape.Statement .dcxD := ⟨_, _, rfl, rfl⟩
theorem EncodeShape.inrE : EncodeShape.Statement .inrE := ⟨_, _, rfl, rfl⟩
theorem EncodeShape.dcrE : EncodeShape.Statement .dcrE := ⟨_, _, rfl, rfl⟩
theorem EncodeShape.mviE (d8 : Byte) : EncodeShape.Statement (.mviE d8) := ⟨_, _, rfl, rfl⟩
theorem EncodeShape.rar : EncodeShape.Statement .rar := ⟨_, _, rfl, rfl⟩
theorem EncodeShape.nop20 : EncodeShape.Statement .nop20 := ⟨_, _, rfl, rfl⟩
theorem EncodeShape.lxiH (d16 : Word) : EncodeShape.Statement (.lxiH d16) := ⟨_, _, rfl, rfl⟩
theorem EncodeShape.shld (a16 : Word) : EncodeShape.Statement (.shld a16) := ⟨_, _, rfl, rfl⟩
theorem EncodeShape.inxH : EncodeShape.Statement .inxH := ⟨_, _, rfl, rfl⟩
theorem EncodeShape.inrH : EncodeShape.Statement .inrH := ⟨_, _, rfl, rfl⟩
theorem EncodeShape.dcrH : EncodeShape.Statement .dcrH := ⟨_, _, rfl, rfl⟩
theorem EncodeShape.mviH (d8 : Byte) : EncodeShape.Statement (.mviH d8) := ⟨_, _, rfl, rfl⟩
theorem EncodeShape.daa : EncodeShape.Statement .daa := ⟨_, _, rfl, rfl⟩
theorem EncodeShape.nop28 : EncodeShape.Statement .nop28 := ⟨_, _, rfl, rfl⟩
theorem EncodeShape.dadH : EncodeShape.Statement .dadH := ⟨_, _, rfl, rfl⟩
theorem EncodeShape.lhld (a16 : Word) : EncodeShape.Statement (.lhld a16) := ⟨_, _, rfl, rfl⟩
theorem EncodeShape.dcxH : EncodeShape.Statement .dcxH := ⟨_, _, rfl, rfl⟩
theorem EncodeShape.inrL : EncodeShape.Statement .inrL := ⟨_, _, rfl, rfl⟩
theorem EncodeShape.dcrL : EncodeShape.Statement .dcrL := ⟨_, _, rfl, rfl⟩
theorem EncodeShape.mviL (d8 : Byte) : EncodeShape.Statement (.mviL d8) := ⟨_, _, rfl, rfl⟩
theorem EncodeShape.cma : EncodeShape.Statement .cma := ⟨_, _, rfl, rfl⟩
theorem EncodeShape.nop30 : EncodeShape.Statement .nop30 := ⟨_, _, rfl, rfl⟩
theorem EncodeShape.lxiSp (d16 : Word) : EncodeShape.Statement (.lxiSp d16) := ⟨_, _, rfl, rfl⟩
theorem EncodeShape.sta (a16 : Word) : EncodeShape.Statement (.sta a16) := ⟨_, _, rfl, rfl⟩
theorem EncodeShape.inxSp : EncodeShape.Statement .inxSp := ⟨_, _, rfl, rfl⟩
theorem EncodeShape.inrM : EncodeShape.Statement .inrM := ⟨_, _, rfl, rfl⟩
theorem EncodeShape.dcrM : EncodeShape.Statement .dcrM := ⟨_, _, rfl, rfl⟩
theorem EncodeShape.mviM (d8 : Byte) : EncodeShape.Statement (.mviM d8) := ⟨_, _, rfl, rfl⟩
theorem EncodeShape.stc : EncodeShape.Statement .stc := ⟨_, _, rfl, rfl⟩
theorem EncodeShape.nop38 : EncodeShape.Statement .nop38 := ⟨_, _, rfl, rfl⟩
theorem EncodeShape.dadSp : EncodeShape.Statement .dadSp := ⟨_, _, rfl, rfl⟩
theorem EncodeShape.lda (a16 : Word) : EncodeShape.Statement (.lda a16) := ⟨_, _, rfl, rfl⟩
theorem EncodeShape.dcxSp : EncodeShape.Statement .dcxSp := ⟨_, _, rfl, rfl⟩
theorem EncodeShape.inrA : EncodeShape.Statement .inrA := ⟨_, _, rfl, rfl⟩
theorem EncodeShape.dcrA : EncodeShape.Statement .dcrA := ⟨_, _, rfl, rfl⟩
theorem EncodeShape.mviA (d8 : Byte) : EncodeShape.Statement (.mviA d8) := ⟨_, _, rfl, rfl⟩
theorem EncodeShape.cmc : EncodeShape.Statement .cmc := ⟨_, _, rfl, rfl⟩
theorem EncodeShape.movBB : EncodeShape.Statement .movBB := ⟨_, _, rfl, rfl⟩
theorem EncodeShape.movBC : EncodeShape.Statement .movBC := ⟨_, _, rfl, rfl⟩
theorem EncodeShape.movBD : EncodeShape.Statement .movBD := ⟨_, _, rfl, rfl⟩
theorem EncodeShape.movBE : EncodeShape.Statement .movBE := ⟨_, _, rfl, rfl⟩
theorem EncodeShape.movBH : EncodeShape.Statement .movBH := ⟨_, _, rfl, rfl⟩
theorem EncodeShape.movBL : EncodeShape.Statement .movBL := ⟨_, _, rfl, rfl⟩
theorem EncodeShape.movBM : EncodeShape.Statement .movBM := ⟨_, _, rfl, rfl⟩
theorem EncodeShape.movBA : EncodeShape.Statement .movBA := ⟨_, _, rfl, rfl⟩
theorem EncodeShape.movCB : EncodeShape.Statement .movCB := ⟨_, _, rfl, rfl⟩
theorem EncodeShape.movCC : EncodeShape.Statement .movCC := ⟨_, _, rfl, rfl⟩
theorem EncodeShape.movCD : EncodeShape.Statement .movCD := ⟨_, _, rfl, rfl⟩
theorem EncodeShape.movCE : EncodeShape.Statement .movCE := ⟨_, _, rfl, rfl⟩
theorem EncodeShape.movCH : EncodeShape.Statement .movCH := ⟨_, _, rfl, rfl⟩
theorem EncodeShape.movCL : EncodeShape.Statement .movCL := ⟨_, _, rfl, rfl⟩
theorem EncodeShape.movCM : EncodeShape.Statement .movCM := ⟨_, _, rfl, rfl⟩
theorem EncodeShape.movCA : EncodeShape.Statement .movCA := ⟨_, _, rfl, rfl⟩
theorem EncodeShape.movDB : EncodeShape.Statement .movDB := ⟨_, _, rfl, rfl⟩
theorem EncodeShape.movDC : EncodeShape.Statement .movDC := ⟨_, _, rfl, rfl⟩
theorem EncodeShape.movDD : EncodeShape.Statement .movDD := ⟨_, _, rfl, rfl⟩
theorem EncodeShape.movDE : EncodeShape.Statement .movDE := ⟨_, _, rfl, rfl⟩
theorem EncodeShape.movDH : EncodeShape.Statement .movDH := ⟨_, _, rfl, rfl⟩
theorem EncodeShape.movDL : EncodeShape.Statement .movDL := ⟨_, _, rfl, rfl⟩
theorem EncodeShape.movDM : EncodeShape.Statement .movDM := ⟨_, _, rfl, rfl⟩
theorem EncodeShape.movDA : EncodeShape.Statement .movDA := ⟨_, _, rfl, rfl⟩
theorem EncodeShape.movEB : EncodeShape.Statement .movEB := ⟨_, _, rfl, rfl⟩
theorem EncodeShape.movEC : EncodeShape.Statement .movEC := ⟨_, _, rfl, rfl⟩
theorem EncodeShape.movED : EncodeShape.Statement .movED := ⟨_, _, rfl, rfl⟩
theorem EncodeShape.movEE : EncodeShape.Statement .movEE := ⟨_, _, rfl, rfl⟩
theorem EncodeShape.movEH : EncodeShape.Statement .movEH := ⟨_, _, rfl, rfl⟩
theorem EncodeShape.movEL : EncodeShape.Statement .movEL := ⟨_, _, rfl, rfl⟩
theorem EncodeShape.movEM : EncodeShape.Statement .movEM := ⟨_, _, rfl, rfl⟩
theorem EncodeShape.movEA : EncodeShape.Statement .movEA := ⟨_, _, rfl, rfl⟩
theorem EncodeShape.movHB : EncodeShape.Statement .movHB := ⟨_, _, rfl, rfl⟩
theorem EncodeShape.movHC : EncodeShape.Statement .movHC := ⟨_, _, rfl, rfl⟩
theorem EncodeShape.movHD : EncodeShape.Statement .movHD := ⟨_, _, rfl, rfl⟩
theorem EncodeShape.movHE : EncodeShape.Statement .movHE := ⟨_, _, rfl, rfl⟩
theorem EncodeShape.movHH : EncodeShape.Statement .movHH := ⟨_, _, rfl, rfl⟩
theorem EncodeShape.movHL : EncodeShape.Statement .movHL := ⟨_, _, rfl, rfl⟩
theorem EncodeShape.movHM : EncodeShape.Statement .movHM := ⟨_, _, rfl, rfl⟩
theorem EncodeShape.movHA : EncodeShape.Statement .movHA := ⟨_, _, rfl, rfl⟩
theorem EncodeShape.movLB : EncodeShape.Statement .movLB := ⟨_, _, rfl, rfl⟩
theorem EncodeShape.movLC : EncodeShape.Statement .movLC := ⟨_, _, rfl, rfl⟩
theorem EncodeShape.movLD : EncodeShape.Statement .movLD := ⟨_, _, rfl, rfl⟩
theorem EncodeShape.movLE : EncodeShape.Statement .movLE := ⟨_, _, rfl, rfl⟩
theorem EncodeShape.movLH : EncodeShape.Statement .movLH := ⟨_, _, rfl, rfl⟩
theorem EncodeShape.movLL : EncodeShape.Statement .movLL := ⟨_, _, rfl, rfl⟩
theorem EncodeShape.movLM : EncodeShape.Statement .movLM := ⟨_, _, rfl, rfl⟩
theorem EncodeShape.movLA : EncodeShape.Statement .movLA := ⟨_, _, rfl, rfl⟩
theorem EncodeShape.movMB : EncodeShape.Statement .movMB := ⟨_, _, rfl, rfl⟩
theorem EncodeShape.movMC : EncodeShape.Statement .movMC := ⟨_, _, rfl, rfl⟩
theorem EncodeShape.movMD : EncodeShape.Statement .movMD := ⟨_, _, rfl, rfl⟩
theorem EncodeShape.movME : EncodeShape.Statement .movME := ⟨_, _, rfl, rfl⟩
theorem EncodeShape.movMH : EncodeShape.Statement .movMH := ⟨_, _, rfl, rfl⟩
theorem EncodeShape.movML : EncodeShape.Statement .movML := ⟨_, _, rfl, rfl⟩
theorem EncodeShape.hlt : EncodeShape.Statement .hlt := ⟨_, _, rfl, rfl⟩
theorem EncodeShape.movMA : EncodeShape.Statement .movMA := ⟨_, _, rfl, rfl⟩
theorem EncodeShape.movAB : EncodeShape.Statement .movAB := ⟨_, _, rfl, rfl⟩
theorem EncodeShape.movAC : EncodeShape.Statement .movAC := ⟨_, _, rfl, rfl⟩
theorem EncodeShape.movAD : EncodeShape.Statement .movAD := ⟨_, _, rfl, rfl⟩
theorem EncodeShape.movAE : EncodeShape.Statement .movAE := ⟨_, _, rfl, rfl⟩
theorem EncodeShape.movAH : EncodeShape.Statement .movAH := ⟨_, _, rfl, rfl⟩
theorem EncodeShape.movAL : EncodeShape.Statement .movAL := ⟨_, _, rfl, rfl⟩
theorem EncodeShape.movAM : EncodeShape.Statement .movAM := ⟨_, _, rfl, rfl⟩
theorem EncodeShape.movAA : EncodeShape.Statement .movAA := ⟨_, _, rfl, rfl⟩
theorem EncodeShape.addB : EncodeShape.Statement .addB := ⟨_, _, rfl, rfl⟩
theorem EncodeShape.addC : EncodeShape.Statement .addC := ⟨_, _, rfl, rfl⟩
theorem EncodeShape.addD : EncodeShape.Statement .addD := ⟨_, _, rfl, rfl⟩
theorem EncodeShape.addE : EncodeShape.Statement .addE := ⟨_, _, rfl, rfl⟩
theorem EncodeShape.addH : EncodeShape.Statement .addH := ⟨_, _, rfl, rfl⟩
theorem EncodeShape.addL : EncodeShape.Statement .addL := ⟨_, _, rfl, rfl⟩
theorem EncodeShape.addM : EncodeShape.Statement .addM := ⟨_, _, rfl, rfl⟩
theorem EncodeShape.addA : EncodeShape.Statement .addA := ⟨_, _, rfl, rfl⟩
theorem EncodeShape.adcB : EncodeShape.Statement .adcB := ⟨_, _, rfl, rfl⟩
theorem EncodeShape.adcC : EncodeShape.Statement .adcC := ⟨_, _, rfl, rfl⟩
theorem EncodeShape.adcD : EncodeShape.Statement .adcD := ⟨_, _, rfl, rfl⟩
theorem EncodeShape.adcE : EncodeShape.Statement .adcE := ⟨_, _, rfl, rfl⟩
theorem EncodeShape.adcH : EncodeShape.Statement .adcH := ⟨_, _, rfl, rfl⟩
theorem EncodeShape.adcL : EncodeShape.Statement .adcL := ⟨_, _, rfl, rfl⟩
theorem EncodeShape.adcM : EncodeShape.Statement .adcM := ⟨_, _, rfl, rfl⟩
theorem EncodeShape.adcA : EncodeShape.Statement .adcA := ⟨_, _, rfl, rfl⟩
theorem EncodeShape.subB : EncodeShape.Statement .subB := ⟨_, _, rfl, rfl⟩
theorem EncodeShape.subC : EncodeShape.Statement .subC := ⟨_, _, rfl, rfl⟩
theorem EncodeShape.subD : EncodeShape.Statement .subD := ⟨_, _, rfl, rfl⟩
theorem EncodeShape.subE : EncodeShape.Statement .subE := ⟨_, _, rfl, rfl⟩
theorem EncodeShape.subH : EncodeShape.Statement .subH := ⟨_, _, rfl, rfl⟩
theorem EncodeShape.subL : EncodeShape.Statement .subL := ⟨_, _, rfl, rfl⟩
theorem EncodeShape.subM : EncodeShape.Statement .subM := ⟨_, _, rfl, rfl⟩
theorem EncodeShape.subA : EncodeShape.Statement .subA := ⟨_, _, rfl, rfl⟩
theorem EncodeShape.sbbB : EncodeShape.Statement .sbbB := ⟨_, _, rfl, rfl⟩
theorem EncodeShape.sbbC : EncodeShape.Statement .sbbC := ⟨_, _, rfl, rfl⟩
theorem EncodeShape.sbbD : EncodeShape.Statement .sbbD := ⟨_, _, rfl, rfl⟩
theorem EncodeShape.sbbE : EncodeShape.Statement .sbbE := ⟨_, _, rfl, rfl⟩
theorem EncodeShape.sbbH : EncodeShape.Statement .sbbH := ⟨_, _, rfl, rfl⟩
theorem EncodeShape.sbbL : EncodeShape.Statement .sbbL := ⟨_, _, rfl, rfl⟩
theorem EncodeShape.sbbM : EncodeShape.Statement .sbbM := ⟨_, _, rfl, rfl⟩
theorem EncodeShape.sbbA : EncodeShape.Statement .sbbA := ⟨_, _, rfl, rfl⟩
theorem EncodeShape.anaB : EncodeShape.Statement .anaB := ⟨_, _, rfl, rfl⟩
theorem EncodeShape.anaC : EncodeShape.Statement .anaC := ⟨_, _, rfl, rfl⟩
theorem EncodeShape.anaD : EncodeShape.Statement .anaD := ⟨_, _, rfl, rfl⟩
theorem EncodeShape.anaE : EncodeShape.Statement .anaE := ⟨_, _, rfl, rfl⟩
theorem EncodeShape.anaH : EncodeShape.Statement .anaH := ⟨_, _, rfl, rfl⟩
theorem EncodeShape.anaL : EncodeShape.Statement .anaL := ⟨_, _, rfl, rfl⟩
theorem EncodeShape.anaM : EncodeShape.Statement .anaM := ⟨_, _, rfl, rfl⟩
theorem EncodeShape.anaA : EncodeShape.Statement .anaA := ⟨_, _, rfl, rfl⟩
theorem EncodeShape.xraB : EncodeShape.Statement .xraB := ⟨_, _, rfl, rfl⟩
theorem EncodeShape.xraC : EncodeShape.Statement .xraC := ⟨_, _, rfl, rfl⟩
theorem EncodeShape.xraD : EncodeShape.Statement .xraD := ⟨_, _, rfl, rfl⟩
theorem EncodeShape.xraE : EncodeShape.Statement .xraE := ⟨_, _, rfl, rfl⟩
theorem EncodeShape.xraH : EncodeShape.Statement .xraH := ⟨_, _, rfl, rfl⟩
theorem EncodeShape.xraL : EncodeShape.Statement .xraL := ⟨_, _, rfl, rfl⟩
theorem EncodeShape.xraM : EncodeShape.Statement .xraM := ⟨_, _, rfl, rfl⟩
theorem EncodeShape.xraA : EncodeShape.Statement .xraA := ⟨_, _, rfl, rfl⟩
theorem EncodeShape.oraB : EncodeShape.Statement .oraB := ⟨_, _, rfl, rfl⟩
theorem EncodeShape.oraC : EncodeShape.Statement .oraC := ⟨_, _, rfl, rfl⟩
theorem EncodeShape.oraD : EncodeShape.Statement .oraD := ⟨_, _, rfl, rfl⟩
theorem EncodeShape.oraE : EncodeShape.Statement .oraE := ⟨_, _, rfl, rfl⟩
theorem EncodeShape.oraH : EncodeShape.Statement .oraH := ⟨_, _, rfl, rfl⟩
theorem EncodeShape.oraL : EncodeShape.Statement .oraL := ⟨_, _, rfl, rfl⟩
theorem EncodeShape.oraM : EncodeShape.Statement .oraM := ⟨_, _, rfl, rfl⟩
theorem EncodeShape.oraA : EncodeShape.Statement .oraA := ⟨_, _, rfl, rfl⟩
theorem EncodeShape.cmpB : EncodeShape.Statement .cmpB := ⟨_, _, rfl, rfl⟩
theorem EncodeShape.cmpC : EncodeShape.Statement .cmpC := ⟨_, _, rfl, rfl⟩
theorem EncodeShape.cmpD : EncodeShape.Statement .cmpD := ⟨_, _, rfl, rfl⟩
theorem EncodeShape.cmpE : EncodeShape.Statement .cmpE := ⟨_, _, rfl, rfl⟩
theorem EncodeShape.cmpH : EncodeShape.Statement .cmpH := ⟨_, _, rfl, rfl⟩
theorem EncodeShape.cmpL : EncodeShape.Statement .cmpL := ⟨_, _, rfl, rfl⟩
theorem EncodeShape.cmpM : EncodeShape.Statement .cmpM := ⟨_, _, rfl, rfl⟩
theorem EncodeShape.cmpA : EncodeShape.Statement .cmpA := ⟨_, _, rfl, rfl⟩
theorem EncodeShape.rnz : EncodeShape.Statement .rnz := ⟨_, _, rfl, rfl⟩
theorem EncodeShape.popB : EncodeShape.Statement .popB := ⟨_, _, rfl, rfl⟩
theorem EncodeShape.jnz (a16 : Word) : EncodeShape.Statement (.jnz a16) := ⟨_, _, rfl, rfl⟩
theorem EncodeShape.jmp (a16 : Word) : EncodeShape.Statement (.jmp a16) := ⟨_, _, rfl, rfl⟩
theorem EncodeShape.cnz (a16 : Word) : EncodeShape.Statement (.cnz a16) := ⟨_, _, rfl, rfl⟩
theorem EncodeShape.pushB : EncodeShape.Statement .pushB := ⟨_, _, rfl, rfl⟩
theorem EncodeShape.adi (d8 : Byte) : EncodeShape.Statement (.adi d8) := ⟨_, _, rfl, rfl⟩
theorem EncodeShape.rst0 : EncodeShape.Statement .rst0 := ⟨_, _, rfl, rfl⟩
theorem EncodeShape.rz : EncodeShape.Statement .rz := ⟨_, _, rfl, rfl⟩
theorem EncodeShape.ret : EncodeShape.Statement .ret := ⟨_, _, rfl, rfl⟩
theorem EncodeShape.jz (a16 : Word) : EncodeShape.Statement (.jz a16) := ⟨_, _, rfl, rfl⟩
theorem EncodeShape.jmpCB (a16 : Word) : EncodeShape.Statement (.jmpCB a16) := ⟨_, _, rfl, rfl⟩
theorem EncodeShape.cz (a16 : Word) : EncodeShape.Statement (.cz a16) := ⟨_, _, rfl, rfl⟩
theorem EncodeShape.call (a16 : Word) : EncodeShape.Statement (.call a16) := ⟨_, _, rfl, rfl⟩
theorem EncodeShape.aci (d8 : Byte) : EncodeShape.Statement (.aci d8) := ⟨_, _, rfl, rfl⟩
theorem EncodeShape.rst1 : EncodeShape.Statement .rst1 := ⟨_, _, rfl, rfl⟩
theorem EncodeShape.rnc : EncodeShape.Statement .rnc := ⟨_, _, rfl, rfl⟩
theorem EncodeShape.popD : EncodeShape.Statement .popD := ⟨_, _, rfl, rfl⟩
theorem EncodeShape.jnc (a16 : Word) : EncodeShape.Statement (.jnc a16) := ⟨_, _, rfl, rfl⟩
theorem EncodeShape.outPort (port : Byte) : EncodeShape.Statement (.outPort port) := ⟨_, _, rfl, rfl⟩
theorem EncodeShape.cnc (a16 : Word) : EncodeShape.Statement (.cnc a16) := ⟨_, _, rfl, rfl⟩
theorem EncodeShape.pushD : EncodeShape.Statement .pushD := ⟨_, _, rfl, rfl⟩
theorem EncodeShape.sui (d8 : Byte) : EncodeShape.Statement (.sui d8) := ⟨_, _, rfl, rfl⟩
theorem EncodeShape.rst2 : EncodeShape.Statement .rst2 := ⟨_, _, rfl, rfl⟩
theorem EncodeShape.rc : EncodeShape.Statement .rc := ⟨_, _, rfl, rfl⟩
theorem EncodeShape.retD9 : EncodeShape.Statement .retD9 := ⟨_, _, rfl, rfl⟩
theorem EncodeShape.jc (a16 : Word) : EncodeShape.Statement (.jc a16) := ⟨_, _, rfl, rfl⟩
theorem EncodeShape.inPort (port : Byte) : EncodeShape.Statement (.inPort port) := ⟨_, _, rfl, rfl⟩
theorem EncodeShape.cc (a16 : Word) : EncodeShape.Statement (.cc a16) := ⟨_, _, rfl, rfl⟩
theorem EncodeShape.callDD (a16 : Word) : EncodeShape.Statement (.callDD a16) := ⟨_, _, rfl, rfl⟩
theorem EncodeShape.sbi (d8 : Byte) : EncodeShape.Statement (.sbi d8) := ⟨_, _, rfl, rfl⟩
theorem EncodeShape.rst3 : EncodeShape.Statement .rst3 := ⟨_, _, rfl, rfl⟩
theorem EncodeShape.rpo : EncodeShape.Statement .rpo := ⟨_, _, rfl, rfl⟩
theorem EncodeShape.popH : EncodeShape.Statement .popH := ⟨_, _, rfl, rfl⟩
theorem EncodeShape.jpo (a16 : Word) : EncodeShape.Statement (.jpo a16) := ⟨_, _, rfl, rfl⟩
theorem EncodeShape.xthl : EncodeShape.Statement .xthl := ⟨_, _, rfl, rfl⟩
theorem EncodeShape.cpo (a16 : Word) : EncodeShape.Statement (.cpo a16) := ⟨_, _, rfl, rfl⟩
theorem EncodeShape.pushH : EncodeShape.Statement .pushH := ⟨_, _, rfl, rfl⟩
theorem EncodeShape.ani (d8 : Byte) : EncodeShape.Statement (.ani d8) := ⟨_, _, rfl, rfl⟩
theorem EncodeShape.rst4 : EncodeShape.Statement .rst4 := ⟨_, _, rfl, rfl⟩
theorem EncodeShape.rpe : EncodeShape.Statement .rpe := ⟨_, _, rfl, rfl⟩
theorem EncodeShape.pchl : EncodeShape.Statement .pchl := ⟨_, _, rfl, rfl⟩
theorem EncodeShape.jpe (a16 : Word) : EncodeShape.Statement (.jpe a16) := ⟨_, _, rfl, rfl⟩
theorem EncodeShape.xchg : EncodeShape.Statement .xchg := ⟨_, _, rfl, rfl⟩
theorem EncodeShape.cpe (a16 : Word) : EncodeShape.Statement (.cpe a16) := ⟨_, _, rfl, rfl⟩
theorem EncodeShape.callED (a16 : Word) : EncodeShape.Statement (.callED a16) := ⟨_, _, rfl, rfl⟩
theorem EncodeShape.xri (d8 : Byte) : EncodeShape.Statement (.xri d8) := ⟨_, _, rfl, rfl⟩
theorem EncodeShape.rst5 : EncodeShape.Statement .rst5 := ⟨_, _, rfl, rfl⟩
theorem EncodeShape.rp : EncodeShape.Statement .rp := ⟨_, _, rfl, rfl⟩
theorem EncodeShape.popPsw : EncodeShape.Statement .popPsw := ⟨_, _, rfl, rfl⟩
theorem EncodeShape.jp (a16 : Word) : EncodeShape.Statement (.jp a16) := ⟨_, _, rfl, rfl⟩
theorem EncodeShape.di : EncodeShape.Statement .di := ⟨_, _, rfl, rfl⟩
theorem EncodeShape.cp (a16 : Word) : EncodeShape.Statement (.cp a16) := ⟨_, _, rfl, rfl⟩
theorem EncodeShape.pushPsw : EncodeShape.Statement .pushPsw := ⟨_, _, rfl, rfl⟩
theorem EncodeShape.ori (d8 : Byte) : EncodeShape.Statement (.ori d8) := ⟨_, _, rfl, rfl⟩
theorem EncodeShape.rst6 : EncodeShape.Statement .rst6 := ⟨_, _, rfl, rfl⟩
theorem EncodeShape.rm : EncodeShape.Statement .rm := ⟨_, _, rfl, rfl⟩
theorem EncodeShape.sphl : EncodeShape.Statement .sphl := ⟨_, _, rfl, rfl⟩
theorem EncodeShape.jm (a16 : Word) : EncodeShape.Statement (.jm a16) := ⟨_, _, rfl, rfl⟩
theorem EncodeShape.ei : EncodeShape.Statement .ei := ⟨_, _, rfl, rfl⟩
theorem EncodeShape.cm (a16 : Word) : EncodeShape.Statement (.cm a16) := ⟨_, _, rfl, rfl⟩
theorem EncodeShape.callFD (a16 : Word) : EncodeShape.Statement (.callFD a16) := ⟨_, _, rfl, rfl⟩
theorem EncodeShape.cpi (d8 : Byte) : EncodeShape.Statement (.cpi d8) := ⟨_, _, rfl, rfl⟩
theorem EncodeShape.rst7 : EncodeShape.Statement .rst7 := ⟨_, _, rfl, rfl⟩

end Sys2Proof.Laws
end

