-- ==== Sys2Proof/Tests/Slice0.lean ====
section
/-! SUPPORT. The author's tests: ill-formed terms, the opcode map, the spec's own vectors one step each (`95_test_vectors.md`, the part
is named at each group), and a witness for the hypotheses of every statement. Expected values come from the spec. -/

open Sys2Proof Sys2Proof.Machine Sys2Proof.Claims

namespace Sys2Proof.Tests

/-! ## Helpers -/

/-- The state with an instruction's bytes at `0x0100` and `pc` there, as the vectors have it. -/
def at100 (bytes : List Byte) (s : State) : State :=
  { s with pc := 0x0100, mem := Memory.load s.mem 0x0100 bytes }

/-- The state with bytes of memory set. -/
def withMem (cells : List (Word × Byte)) (s : State) : State := { s with mem := Memory.writeAll s.mem cells }

/-- Registers in the order `A B C D E H L`. -/
def withRegs (a b c d e h l : Byte) : State :=
  { State.reset with regs := { a := a, b := b, c := c, d := d, e := e, h := h, l := l } }

/-- Flags in the order of the vectors, `z s p cy ac`. -/
def flagBits (z s p cy ac : Bool) : Flags := { z := z, s := s, p := p, cy := cy, ac := ac }

/-- The next state of a step. -/
def after (s : State) : State :=
  match step s with
  | .next t => t
  | .fault _ => s
  | .refused _ => s

/-- The accumulator and the flags `z s p cy ac` after one instruction, from `A`, `B`, `cy` and `ac`. -/
def aluRow (bytes : List Byte) (a b : Byte) (cy ac : Bool) : Byte × List Bool :=
  let t := after (at100 bytes { withRegs a b 0 0 0 0 0 with flags := flagBits false false false cy ac })
  (t.regs.a, [t.flags.z, t.flags.s, t.flags.p, t.flags.cy, t.flags.ac])

/-! ## What is not well formed: memories and launch values (R40, R28). Every instruction is well formed (R70) -/

theorem test_wf_reset_memory : Memory.wf State.reset.mem = true := by decide
theorem test_wf_memory_ends : Memory.wf [(0, 1), (65535, 2)] = true := by decide
theorem test_wf_refuses_unsorted : Memory.wf [(5, 1), (4, 1)] = false := by decide
theorem test_wf_refuses_repeated : Memory.wf [(5, 1), (5, 2)] = false := by decide
theorem test_wf_refuses_beyond_the_end : Memory.wf [(65536, 1)] = false := by decide
theorem test_wf_refuses_unlisted_value : Memory.wf [(5, Config.unlistedByte)] = false := by decide
theorem test_write_of_unlisted_value_removes : Memory.write [(5, 1)] 5 Config.unlistedByte = [] := by decide

/-- Launch values with an image of `n` bytes. -/
def launchOf (n : Nat) : Launch :=
  { regs := { a := 1, b := 2, c := 3, d := 4, e := 5, h := 6, l := 7 }, sp := 0x2400, flags := flagBits true false true false true
    outPort3 := 1, outPort3Prev := 2, outPort5 := 3, outPort5Prev := 4, shift0 := 5, shift1 := 6, shiftOffset := 7
    mem := [(0x2000, 0x55), (0x0003, 0x44), (0x0002, 0x33), (0x2000, 0x99)], image := List.replicate n 0x76 }

theorem test_wf_launch : HostAction.wf (.reset (launchOf 3)) = true := by decide
theorem test_wf_refuses_image_too_long : HostAction.wf (.reset (launchOf 65537)) = false := by
  show decide ((List.replicate 65537 (0x76 : Byte)).length ≤ 65536) = false
  rw [List.length_replicate]
  decide

/-! ## Decoding: every constructor, from its byte in the map of R68 and operand bytes `0x34 0x12` (R61, R63) -/

/-- What a row of opcode bytes decodes to. -/
def row (ops : List Byte) : List Instr := ops.map fun op => decodeBytes op 0x34 0x12

theorem test_decode_row_0 :
    row [0x00, 0x01, 0x02, 0x03, 0x04, 0x05, 0x06, 0x07, 0x08, 0x09, 0x0A, 0x0B, 0x0C, 0x0D, 0x0E, 0x0F] =
      [.nop, .lxiB 0x1234, .staxB, .inxB, .inrB, .dcrB, .mviB 0x34, .rlc, .nop08, .dadB, .ldaxB, .dcxB, .inrC, .dcrC,
       .mviC 0x34, .rrc] := by
  decide
theorem test_decode_row_1 :
    row [0x10, 0x11, 0x12, 0x13, 0x14, 0x15, 0x16, 0x17, 0x18, 0x19, 0x1A, 0x1B, 0x1C, 0x1D, 0x1E, 0x1F] =
      [.nop10, .lxiD 0x1234, .staxD, .inxD, .inrD, .dcrD, .mviD 0x34, .ral, .nop18, .dadD, .ldaxD, .dcxD, .inrE,
       .dcrE, .mviE 0x34, .rar] := by
  decide
theorem test_decode_row_2 :
    row [0x20, 0x21, 0x22, 0x23, 0x24, 0x25, 0x26, 0x27, 0x28, 0x29, 0x2A, 0x2B, 0x2C, 0x2D, 0x2E, 0x2F] =
      [.nop20, .lxiH 0x1234, .shld 0x1234, .inxH, .inrH, .dcrH, .mviH 0x34, .daa, .nop28, .dadH, .lhld 0x1234, .dcxH,
       .inrL, .dcrL, .mviL 0x34, .cma] := by
  decide
theorem test_decode_row_3 :
    row [0x30, 0x31, 0x32, 0x33, 0x34, 0x35, 0x36, 0x37, 0x38, 0x39, 0x3A, 0x3B, 0x3C, 0x3D, 0x3E, 0x3F] =
      [.nop30, .lxiSp 0x1234, .sta 0x1234, .inxSp, .inrM, .dcrM, .mviM 0x34, .stc, .nop38, .dadSp, .lda 0x1234,
       .dcxSp, .inrA, .dcrA, .mviA 0x34, .cmc] := by
  decide
theorem test_decode_row_4 :
    row [0x40, 0x41, 0x42, 0x43, 0x44, 0x45, 0x46, 0x47, 0x48, 0x49, 0x4A, 0x4B, 0x4C, 0x4D, 0x4E, 0x4F] =
      [.movBB, .movBC, .movBD, .movBE, .movBH, .movBL, .movBM, .movBA, .movCB, .movCC, .movCD, .movCE, .movCH, .movCL,
       .movCM, .movCA] := by
  decide
theorem test_decode_row_5 :
    row [0x50, 0x51, 0x52, 0x53, 0x54, 0x55, 0x56, 0x57, 0x58, 0x59, 0x5A, 0x5B, 0x5C, 0x5D, 0x5E, 0x5F] =
      [.movDB, .movDC, .movDD, .movDE, .movDH, .movDL, .movDM, .movDA, .movEB, .movEC, .movED, .movEE, .movEH, .movEL,
       .movEM, .movEA] := by
  decide
theorem test_decode_row_6 :
    row [0x60, 0x61, 0x62, 0x63, 0x64, 0x65, 0x66, 0x67, 0x68, 0x69, 0x6A, 0x6B, 0x6C, 0x6D, 0x6E, 0x6F] =
      [.movHB, .movHC, .movHD, .movHE, .movHH, .movHL, .movHM, .movHA, .movLB, .movLC, .movLD, .movLE, .movLH, .movLL,
       .movLM, .movLA] := by
  decide
theorem test_decode_row_7 :
    row [0x70, 0x71, 0x72, 0x73, 0x74, 0x75, 0x76, 0x77, 0x78, 0x79, 0x7A, 0x7B, 0x7C, 0x7D, 0x7E, 0x7F] =
      [.movMB, .movMC, .movMD, .movME, .movMH, .movML, .hlt, .movMA, .movAB, .movAC, .movAD, .movAE, .movAH, .movAL,
       .movAM, .movAA] := by
  decide
theorem test_decode_row_8 :
    row [0x80, 0x81, 0x82, 0x83, 0x84, 0x85, 0x86, 0x87, 0x88, 0x89, 0x8A, 0x8B, 0x8C, 0x8D, 0x8E, 0x8F] =
      [.addB, .addC, .addD, .addE, .addH, .addL, .addM, .addA, .adcB, .adcC, .adcD, .adcE, .adcH, .adcL, .adcM, .adcA] := by
  decide
theorem test_decode_row_9 :
    row [0x90, 0x91, 0x92, 0x93, 0x94, 0x95, 0x96, 0x97, 0x98, 0x99, 0x9A, 0x9B, 0x9C, 0x9D, 0x9E, 0x9F] =
      [.subB, .subC, .subD, .subE, .subH, .subL, .subM, .subA, .sbbB, .sbbC, .sbbD, .sbbE, .sbbH, .sbbL, .sbbM, .sbbA] := by
  decide
theorem test_decode_row_A :
    row [0xA0, 0xA1, 0xA2, 0xA3, 0xA4, 0xA5, 0xA6, 0xA7, 0xA8, 0xA9, 0xAA, 0xAB, 0xAC, 0xAD, 0xAE, 0xAF] =
      [.anaB, .anaC, .anaD, .anaE, .anaH, .anaL, .anaM, .anaA, .xraB, .xraC, .xraD, .xraE, .xraH, .xraL, .xraM, .xraA] := by
  decide
theorem test_decode_row_B :
    row [0xB0, 0xB1, 0xB2, 0xB3, 0xB4, 0xB5, 0xB6, 0xB7, 0xB8, 0xB9, 0xBA, 0xBB, 0xBC, 0xBD, 0xBE, 0xBF] =
      [.oraB, .oraC, .oraD, .oraE, .oraH, .oraL, .oraM, .oraA, .cmpB, .cmpC, .cmpD, .cmpE, .cmpH, .cmpL, .cmpM, .cmpA] := by
  decide
theorem test_decode_row_C :
    row [0xC0, 0xC1, 0xC2, 0xC3, 0xC4, 0xC5, 0xC6, 0xC7, 0xC8, 0xC9, 0xCA, 0xCB, 0xCC, 0xCD, 0xCE, 0xCF] =
      [.rnz, .popB, .jnz 0x1234, .jmp 0x1234, .cnz 0x1234, .pushB, .adi 0x34, .rst0, .rz, .ret, .jz 0x1234,
       .jmpCB 0x1234, .cz 0x1234, .call 0x1234, .aci 0x34, .rst1] := by
  decide
theorem test_decode_row_D :
    row [0xD0, 0xD1, 0xD2, 0xD3, 0xD4, 0xD5, 0xD6, 0xD7, 0xD8, 0xD9, 0xDA, 0xDB, 0xDC, 0xDD, 0xDE, 0xDF] =
      [.rnc, .popD, .jnc 0x1234, .outPort 0x34, .cnc 0x1234, .pushD, .sui 0x34, .rst2, .rc, .retD9, .jc 0x1234,
       .inPort 0x34, .cc 0x1234, .callDD 0x1234, .sbi 0x34, .rst3] := by
  decide
theorem test_decode_row_E :
    row [0xE0, 0xE1, 0xE2, 0xE3, 0xE4, 0xE5, 0xE6, 0xE7, 0xE8, 0xE9, 0xEA, 0xEB, 0xEC, 0xED, 0xEE, 0xEF] =
      [.rpo, .popH, .jpo 0x1234, .xthl, .cpo 0x1234, .pushH, .ani 0x34, .rst4, .rpe, .pchl, .jpe 0x1234, .xchg,
       .cpe 0x1234, .callED 0x1234, .xri 0x34, .rst5] := by
  decide
theorem test_decode_row_F :
    row [0xF0, 0xF1, 0xF2, 0xF3, 0xF4, 0xF5, 0xF6, 0xF7, 0xF8, 0xF9, 0xFA, 0xFB, 0xFC, 0xFD, 0xFE, 0xFF] =
      [.rp, .popPsw, .jp 0x1234, .di, .cp 0x1234, .pushPsw, .ori 0x34, .rst6, .rm, .sphl, .jm 0x1234, .ei, .cm 0x1234,
       .callFD 0x1234, .cpi 0x34, .rst7] := by
  decide

theorem test_decode_stops_at_the_end : decode [] = .error .noBytes ∧ decode [0xCD, 0x00] = .error (.operandMissing 0xCD) ∧
    decode [0x3E] = .error (.operandMissing 0x3E) := ⟨rfl, rfl, rfl⟩
theorem test_table_word_one_byte : decodeTableWord 8 0x78 = some .movAB := by decide
theorem test_table_word_three_bytes : decodeTableWord 24 0x123421 = some (.lxiH 0x1234) := by decide
theorem test_table_word_short : decodeTableWord 8 0xC3 = some (.jmp 0x0000) := by decide
theorem test_fetch_word_runs : (after (State.reset.withFetchWord 24 0x123421)).regs.h = 0x12 := by decide
theorem test_fetch_word_runs_when_halted :
    (after ({ State.reset with halted := true, schedule := [.interrupt] }.withFetchWord 16 0x053E)).regs.a = 0x05 := by decide

/-! ## Data transfer (2.1) -/

theorem test_mov_a_b : (after (at100 [0x78] (withRegs 0x34 0x12 0 0 0 0 0))).regs.a = 0x12 := by decide
theorem test_mov_h_h : after (at100 [0x64] (withRegs 0 0 0 0 0 0x20 0)) = { at100 [0x64] (withRegs 0 0 0 0 0 0x20 0) with pc := 0x0101 } := by decide
theorem test_mov_m_a : (after (at100 [0x77] (withRegs 0x5A 0 0 0 0 0x20 0x10))).readByte 0x2010 = 0x5A := by decide
theorem test_mov_l_m : (after (at100 [0x6E] (withMem [(0x2010, 0x7A)] (withRegs 0 0 0 0 0 0x20 0x10)))).regs.hl = 0x207A := by decide
theorem test_mvi_a : (after (at100 [0x3E, 0x05] State.reset)).regs.a = 0x05 ∧ (after (at100 [0x3E, 0x05] State.reset)).pc = 0x0102 := by decide
theorem test_mvi_m : (after (at100 [0x36, 0xFF] (withRegs 0 0 0 0 0 0x20 0x00))).readByte 0x2000 = 0xFF := by decide
theorem test_mvi_fetch_wraps : (after (withMem [(0xFFFF, 0x3E), (0x0000, 0x77)] { State.reset with pc := 0xFFFF })).regs.a = 0x77 := by decide
theorem test_lxi_b : (after (at100 [0x01, 0x34, 0x12] State.reset)).regs.b = 0x12 ∧ (after (at100 [0x01, 0x34, 0x12] State.reset)).regs.c = 0x34 := by decide
theorem test_lxi_sp : (after (at100 [0x31, 0x00, 0x24] State.reset)).sp = 0x2400 := by decide
theorem test_lxi_fetch_wraps : (after (withMem [(0xFFFF, 0x01), (0x0000, 0x34), (0x0001, 0x12)] { State.reset with pc := 0xFFFF })).regs.bc = 0x1234 := by decide
theorem test_lda : (after (at100 [0x3A, 0x00, 0x20] (withMem [(0x2000, 0x99)] State.reset))).regs.a = 0x99 := by decide
theorem test_sta_top : (after (at100 [0x32, 0xFF, 0xFF] (withRegs 0x42 0 0 0 0 0 0))).readByte 0xFFFF = 0x42 := by decide
theorem test_lhld_wraps : (after (at100 [0x2A, 0xFF, 0xFF] (withMem [(0xFFFF, 0x11), (0x0000, 0x22)] State.reset))).regs.hl = 0x2211 := by decide
theorem test_shld_wraps : (after (at100 [0x22, 0xFF, 0xFF] (withRegs 0 0 0 0 0 0xAE 0x29))).readByte 0xFFFF = 0x29 ∧
    (after (at100 [0x22, 0xFF, 0xFF] (withRegs 0 0 0 0 0 0xAE 0x29))).readByte 0x0000 = 0xAE := by decide
theorem test_ldax_d : (after (at100 [0x1A] (withMem [(0x938B, 0x55)] (withRegs 0 0 0 0x93 0x8B 0 0)))).regs.a = 0x55 := by decide
theorem test_ldax_b : (after (at100 [0x0A] (withMem [(0x2000, 0x77)] (withRegs 0 0x20 0 0 0 0 0)))).regs.a = 0x77 := by decide
theorem test_stax_b : (after (at100 [0x02] (withRegs 0x3C 0x3F 0x16 0 0 0 0))).readByte 0x3F16 = 0x3C := by decide
theorem test_stax_d : (after (at100 [0x12] (withRegs 0x3C 0 0 0xFF 0xFF 0 0))).readByte 0xFFFF = 0x3C := by decide
theorem test_xchg : (after (at100 [0xEB] (withRegs 0 0 0 0x33 0x55 0x00 0xFF))).regs = (withRegs 0 0 0 0x00 0xFF 0x33 0x55).regs := by decide

/-! ## Arithmetic, logic, compare (2.2) -/

theorem test_add_wraps : aluRow [0x80] 0xFF 0x01 false false = (0x00, [true, false, true, true, true]) := by decide
theorem test_add_sign : aluRow [0x80] 0x7F 0x01 false false = (0x80, [false, true, false, false, true]) := by decide
theorem test_adc_carry_in : aluRow [0x88] 0x7F 0x80 true false = (0x00, [true, false, true, true, true]) := by decide
theorem test_adc_all : aluRow [0x88] 0xFF 0xFF true false = (0xFF, [false, true, true, true, true]) := by decide
theorem test_sub_borrow : aluRow [0x90] 0x05 0x06 false false = (0xFF, [false, true, true, true, true]) := by decide
theorem test_sub_half_borrow : aluRow [0x90] 0x10 0x01 false false = (0x0F, [false, false, true, false, true]) := by decide
theorem test_sbb_borrow_in : aluRow [0x98] 0x00 0xFF true false = (0x00, [true, false, true, true, true]) := by decide
theorem test_sbb_half : aluRow [0x98] 0x80 0x7F true false = (0x00, [true, false, true, false, true]) := by decide
theorem test_ana : aluRow [0xA0] 0xFC 0x0F true false = (0x0C, [false, false, true, false, false]) := by decide
theorem test_xra : aluRow [0xA8] 0x5C 0x78 true false = (0x24, [false, false, true, false, false]) := by decide
theorem test_ora : aluRow [0xB0] 0x33 0x0F true false = (0x3F, [false, false, true, false, false]) := by decide
theorem test_cmp_less : aluRow [0xB8] 0x02 0x05 false false = (0x02, [false, true, false, true, true]) := by decide
theorem test_cmp_half : aluRow [0xB8] 0x80 0x7F false false = (0x80, [false, false, false, false, true]) := by decide
theorem test_add_a : aluRow [0x87] 0x80 0x00 false false = (0x00, [true, false, true, true, false]) := by decide
theorem test_sub_a : aluRow [0x97] 0x3E 0x00 true false = (0x00, [true, false, true, false, false]) := by decide
theorem test_adi : aluRow [0xC6, 0x01] 0x0F 0x00 false false = (0x10, [false, false, false, false, true]) := by decide
theorem test_aci : aluRow [0xCE, 0x00] 0x0F 0x00 true false = (0x10, [false, false, false, false, true]) := by decide
theorem test_sui : aluRow [0xD6, 0x01] 0x80 0x00 false false = (0x7F, [false, false, false, false, true]) := by decide
theorem test_sbi : aluRow [0xDE, 0x0F] 0x10 0x00 true false = (0x00, [true, false, true, false, true]) := by decide
theorem test_ani : aluRow [0xE6, 0x0F] 0xF0 0x00 true false = (0x00, [true, false, true, false, false]) := by decide
theorem test_xri : aluRow [0xEE, 0xF0] 0x0F 0x00 false false = (0xFF, [false, true, true, false, false]) := by decide
theorem test_ori : aluRow [0xF6, 0xAA] 0x55 0x00 false false = (0xFF, [false, true, true, false, false]) := by decide
theorem test_cpi : aluRow [0xFE, 0xFF] 0x00 0x00 false false = (0x00, [false, false, false, true, true]) := by decide
theorem test_add_m : (after (at100 [0x86] (withMem [(0x2000, 0x03)] (withRegs 0x05 0 0 0 0 0x20 0x00)))).regs.a = 0x08 := by decide

/-! ## `INR`, `DCR` (2.3), sixteen-bit arithmetic (2.4), `DAA` (2.5) -/

/-- `B` and the flags after one instruction, from `B` and `cy`. -/
def countRow (bytes : List Byte) (b : Byte) (cy : Bool) : Byte × List Bool :=
  let t := after (at100 bytes { withRegs 0 b 0 0 0 0 0 with flags := flagBits false false false cy false })
  (t.regs.b, [t.flags.z, t.flags.s, t.flags.p, t.flags.cy, t.flags.ac])

theorem test_inr_wraps : countRow [0x04] 0xFF true = (0x00, [true, false, true, true, true]) := by decide
theorem test_inr_sign : countRow [0x04] 0x7F false = (0x80, [false, true, false, false, true]) := by decide
theorem test_dcr_wraps : countRow [0x05] 0x00 false = (0xFF, [false, true, true, false, true]) := by decide
theorem test_dcr_half : countRow [0x05] 0x10 false = (0x0F, [false, false, true, false, true]) := by decide
theorem test_inr_m : (after (at100 [0x34] (withMem [(0x2000, 0xFF)] (withRegs 0 0 0 0 0 0x20 0)))).readByte 0x2000 = 0x00 ∧
    (after (at100 [0x34] (withMem [(0x2000, 0xFF)] (withRegs 0 0 0 0 0 0x20 0)))).flags = flagBits true false true false true := by decide
theorem test_dad_b : (after (at100 [0x09] (withRegs 0 0x33 0x9F 0 0 0xA1 0x7B))).hl = 0xD51A ∧ (after (at100 [0x09] (withRegs 0 0x33 0x9F 0 0 0xA1 0x7B))).flags.cy = false := by decide
theorem test_dad_sp_carry : (after (at100 [0x39] { withRegs 0 0 0 0 0 0x00 0x10 with sp := 0xFFF0 })).hl = 0x0000 ∧
    (after (at100 [0x39] { withRegs 0 0 0 0 0 0x00 0x10 with sp := 0xFFF0 })).flags.cy = true := by decide
theorem test_dad_h : (after (at100 [0x29] (withRegs 0 0 0 0 0 0x12 0x34))).hl = 0x2468 := by decide
theorem test_inx_b : (after (at100 [0x03] (withRegs 0 0x00 0xFF 0 0 0 0))).regs.bc = 0x0100 := by decide
theorem test_inx_d_no_flag : (after (at100 [0x13] (withRegs 0 0 0 0xFF 0xFF 0 0))).regs.de = 0x0000 ∧ (after (at100 [0x13] (withRegs 0 0 0 0xFF 0xFF 0 0))).flags.z = false := by decide
theorem test_dcx_h : (after (at100 [0x2B] (withRegs 0 0 0 0 0 0x98 0x00))).hl = 0x97FF := by decide
theorem test_dcx_sp : (after (at100 [0x3B] State.reset)).sp = 0xFFFF := by decide
theorem test_daa_both_stages : aluRow [0x27] 0x9B 0x00 false false = (0x01, [false, false, false, true, true]) := by decide
theorem test_daa_stage_two_sees_stage_one : aluRow [0x27] 0x9A 0x00 false false = (0x00, [true, false, true, true, true]) := by decide
theorem test_daa_ac_in : aluRow [0x27] 0x12 0x00 false true = (0x18, [false, false, true, false, false]) := by decide
theorem test_daa_cy_in : aluRow [0x27] 0x12 0x00 true false = (0x72, [false, false, true, true, false]) := by decide
theorem test_daa_valid : aluRow [0x27] 0x99 0x00 false false = (0x99, [false, true, true, false, false]) := by decide

/-! ## Rotates and carry (2.6): the flags other than the carry stay -/

theorem test_rlc : aluRow [0x07] 0xB5 0x00 false false = (0x6B, [false, false, false, true, false]) := by decide
theorem test_rlc_drops_old_carry : aluRow [0x07] 0x01 0x00 true false = (0x02, [false, false, false, false, false]) := by decide
theorem test_rrc : aluRow [0x0F] 0x01 0x00 false false = (0x80, [false, false, false, true, false]) := by decide
theorem test_rrc_drops_old_carry : aluRow [0x0F] 0x80 0x00 true false = (0x40, [false, false, false, false, false]) := by decide
theorem test_ral : aluRow [0x17] 0x6A 0x00 true false = (0xD5, [false, false, false, false, false]) := by decide
theorem test_ral_out : aluRow [0x17] 0x80 0x00 false false = (0x00, [false, false, false, true, false]) := by decide
theorem test_rar : aluRow [0x1F] 0x01 0x00 true false = (0x80, [false, false, false, true, false]) := by decide
theorem test_rar_zero : aluRow [0x1F] 0x01 0x00 false false = (0x00, [false, false, false, true, false]) := by decide
theorem test_cma : aluRow [0x2F] 0x51 0x00 true false = (0xAE, [false, false, false, true, false]) := by decide
theorem test_stc : aluRow [0x37] 0x51 0x00 false false = (0x51, [false, false, false, true, false]) := by decide
theorem test_cmc : aluRow [0x3F] 0x51 0x00 true false = (0x51, [false, false, false, false, false]) := by decide

/-! ## Control transfer (2.7) -/

/-- `sp`, `pc` and the two bytes below `0x2400` after one instruction at `0x0100`, from flags and `sp`, with `0x0103` on the stack at
`0x23FE`. -/
def flowRow (bytes : List Byte) (f : Flags) (sp : Word) : Word × Word × Byte × Byte :=
  let t := after (at100 bytes (withMem (if sp = 0x23FE then [(0x23FE, 0x03), (0x23FF, 0x01)] else [])
    { State.reset with flags := f, sp := sp }))
  (t.sp, t.pc, t.readByte 0x23FF, t.readByte 0x23FE)

theorem test_jmp : flowRow [0xC3, 0x00, 0x3E] (flagBits false false false false false) 0x0000 = (0x0000, 0x3E00, 0x00, 0x00) := by decide
theorem test_jmp_cb : flowRow [0xCB, 0x00, 0x3E] (flagBits false false false false false) 0x0000 = (0x0000, 0x3E00, 0x00, 0x00) := by decide
theorem test_jnz_taken : flowRow [0xC2, 0x34, 0x12] (flagBits false false false false false) 0x0000 = (0x0000, 0x1234, 0x00, 0x00) := by decide
theorem test_jnz_not_taken : flowRow [0xC2, 0x34, 0x12] (flagBits true false false false false) 0x0000 = (0x0000, 0x0103, 0x00, 0x00) := by decide
theorem test_jz_taken : flowRow [0xCA, 0x34, 0x12] (flagBits true false false false false) 0x0000 = (0x0000, 0x1234, 0x00, 0x00) := by decide
theorem test_jnc_not_taken : flowRow [0xD2, 0x34, 0x12] (flagBits false false false true false) 0x0000 = (0x0000, 0x0103, 0x00, 0x00) := by decide
theorem test_jc_not_taken : flowRow [0xDA, 0x34, 0x12] (flagBits false false false false false) 0x0000 = (0x0000, 0x0103, 0x00, 0x00) := by decide
theorem test_jpo_taken : flowRow [0xE2, 0x34, 0x12] (flagBits false false false false false) 0x0000 = (0x0000, 0x1234, 0x00, 0x00) := by decide
theorem test_jpe_not_taken : flowRow [0xEA, 0x34, 0x12] (flagBits false false false false false) 0x0000 = (0x0000, 0x0103, 0x00, 0x00) := by decide
theorem test_jp_taken : flowRow [0xF2, 0x34, 0x12] (flagBits false false false false false) 0x0000 = (0x0000, 0x1234, 0x00, 0x00) := by decide
theorem test_jm_taken : flowRow [0xFA, 0x34, 0x12] (flagBits false true false false false) 0x0000 = (0x0000, 0x1234, 0x00, 0x00) := by decide
theorem test_call : flowRow [0xCD, 0x00, 0x20] (flagBits false false false false false) 0x2400 = (0x23FE, 0x2000, 0x01, 0x03) := by decide
theorem test_call_dd : flowRow [0xDD, 0x00, 0x20] (flagBits false false false false false) 0x2400 = (0x23FE, 0x2000, 0x01, 0x03) := by decide
theorem test_call_ed : flowRow [0xED, 0x00, 0x20] (flagBits false false false false false) 0x2400 = (0x23FE, 0x2000, 0x01, 0x03) := by decide
theorem test_call_fd : flowRow [0xFD, 0x00, 0x20] (flagBits false false false false false) 0x2400 = (0x23FE, 0x2000, 0x01, 0x03) := by decide
theorem test_cnc_taken : flowRow [0xD4, 0x00, 0x20] (flagBits false false false false false) 0x2400 = (0x23FE, 0x2000, 0x01, 0x03) := by decide
theorem test_cnc_not_taken : flowRow [0xD4, 0x00, 0x20] (flagBits false false false true false) 0x2400 = (0x2400, 0x0103, 0x00, 0x00) := by decide
theorem test_cm_taken : flowRow [0xFC, 0x00, 0x20] (flagBits false true false false false) 0x2400 = (0x23FE, 0x2000, 0x01, 0x03) := by decide
theorem test_ret : flowRow [0xC9] (flagBits false false false false false) 0x23FE = (0x2400, 0x0103, 0x01, 0x03) := by decide
theorem test_ret_d9 : flowRow [0xD9] (flagBits false false false false false) 0x23FE = (0x2400, 0x0103, 0x01, 0x03) := by decide
theorem test_rz_taken : flowRow [0xC8] (flagBits true false false false false) 0x23FE = (0x2400, 0x0103, 0x01, 0x03) := by decide
theorem test_rz_not_taken : flowRow [0xC8] (flagBits false false false false false) 0x23FE = (0x23FE, 0x0101, 0x01, 0x03) := by decide
theorem test_rst_3 : flowRow [0xDF] (flagBits false false false false false) 0x2400 = (0x23FE, 0x0018, 0x01, 0x01) := by decide
theorem test_rst_7 : flowRow [0xFF] (flagBits false false false false false) 0x2400 = (0x23FE, 0x0038, 0x01, 0x01) := by decide
theorem test_pchl : (after (at100 [0xE9] (withRegs 0 0 0 0 0 0x41 0x3E))).pc = 0x413E := by decide
theorem test_ret_wraps : (after (at100 [0xC9] (withMem [(0xFFFF, 0x34), (0x0000, 0x12)] { State.reset with sp := 0xFFFF }))).pc = 0x1234 ∧
    (after (at100 [0xC9] (withMem [(0xFFFF, 0x34), (0x0000, 0x12)] { State.reset with sp := 0xFFFF }))).sp = 0x0001 := by decide

/-! ## Stack, ports, machine control (2.8) -/

theorem test_push_b : (after (at100 [0xC5] { withRegs 0 0x12 0x34 0 0 0 0 with sp := 0x2400 })).readWord 0x23FE = 0x1234 ∧
    (after (at100 [0xC5] { withRegs 0 0x12 0x34 0 0 0 0 with sp := 0x2400 })).sp = 0x23FE := by decide
theorem test_push_h_wraps : (after (at100 [0xE5] { withRegs 0 0 0 0 0 0xAB 0xCD with sp := 0x0001 })).readByte 0x0000 = 0xAB ∧
    (after (at100 [0xE5] { withRegs 0 0 0 0 0 0xAB 0xCD with sp := 0x0001 })).readByte 0xFFFF = 0xCD := by decide
theorem test_push_psw : (after (at100 [0xF5] { withRegs 0x9A 0 0 0 0 0 0 with sp := 0x2400, flags := flagBits true false true true false })).readWord 0x23FE = 0x9A47 := by decide
theorem test_push_psw_no_flag : (after (at100 [0xF5] { State.reset with sp := 0x2400 })).readByte 0x23FE = 0x02 := by decide
theorem test_pop_b : (after (at100 [0xC1] (withMem [(0x23FE, 0x34), (0x23FF, 0x12)] { State.reset with sp := 0x23FE }))).regs.bc = 0x1234 ∧
    (after (at100 [0xC1] (withMem [(0x23FE, 0x34), (0x23FF, 0x12)] { State.reset with sp := 0x23FE }))).sp = 0x2400 := by decide
theorem test_pop_psw_all_ones : (after (at100 [0xF1] (withMem [(0x23FE, 0xFF), (0x23FF, 0x9A)] { State.reset with sp := 0x23FE }))).regs.a = 0x9A ∧
    (after (at100 [0xF1] (withMem [(0x23FE, 0xFF), (0x23FF, 0x9A)] { State.reset with sp := 0x23FE }))).flags = flagBits true true true true true := by decide
theorem test_pop_psw : (after (at100 [0xF1] (withMem [(0x23FE, 0x47), (0x23FF, 0x9A)] { State.reset with sp := 0x23FE }))).flags = flagBits true false true true false := by decide
theorem test_xthl : (after (at100 [0xE3] (withMem [(0x23FE, 0xF0), (0x23FF, 0x0D)] { withRegs 0 0 0 0 0 0x0B 0x3C with sp := 0x23FE }))).hl = 0x0DF0 ∧
    (after (at100 [0xE3] (withMem [(0x23FE, 0xF0), (0x23FF, 0x0D)] { withRegs 0 0 0 0 0 0x0B 0x3C with sp := 0x23FE }))).readWord 0x23FE = 0x0B3C := by decide
theorem test_xthl_wraps : (after (at100 [0xE3] (withMem [(0xFFFF, 0xF0), (0x0000, 0x0D)] { withRegs 0 0 0 0 0 0x0B 0x3C with sp := 0xFFFF }))).readByte 0xFFFF = 0x3C ∧
    (after (at100 [0xE3] (withMem [(0xFFFF, 0xF0), (0x0000, 0x0D)] { withRegs 0 0 0 0 0 0x0B 0x3C with sp := 0xFFFF }))).readByte 0x0000 = 0x0B := by decide
theorem test_sphl : (after (at100 [0xF9] (withRegs 0 0 0 0 0 0x50 0x6C))).sp = 0x506C := by decide
/-- A bridge with a shift register, its offset, the two input latches and the output latches with their shadows. -/
def bridgeOf (shift1 shift0 : Byte) (k : BitVec 3) (p1 p2 o3 o3' o5 o5' : Byte) : Bridge :=
  { port1 := p1, port2 := p2, outPort3 := o3, outPort3Prev := o3', outPort5 := o5, outPort5Prev := o5'
    shift0 := shift0, shift1 := shift1, shiftOffset := k }

/-- The bridge after an `OUT` of `a` to a port, from a bridge. -/
def outRow (port a : Byte) (b : Bridge) : Bridge := (after (at100 [0xD3, port] { withRegs a 0 0 0 0 0 0 with bridge := b })).bridge

/-- The accumulator after an `IN` from a port. -/
def inRow (port : Byte) (b : Bridge) : Byte := (after (at100 [0xDB, port] { State.reset with bridge := b })).regs.a

theorem test_in_1 : inRow 1 (bridgeOf 0 0 0 0x5A 0x83 0 0 0 0) = 0x5A := by decide
theorem test_in_2 : inRow 2 (bridgeOf 0 0 0 0x5A 0x83 0 0 0 0) = 0x83 := by decide
theorem test_in_3_every_offset : ([0, 1, 2, 3, 4, 5, 6, 7].map fun k => inRow 3 (bridgeOf 0xCD 0xAB k 0 0 0 0 0 0)) =
    [0xCD, 0x9B, 0x36, 0x6D, 0xDA, 0xB5, 0x6A, 0xD5] := by decide
theorem test_in_unlisted_completes :
    ∃ v, after (at100 [0xDB, 0x00] State.reset) = { at100 [0xDB, 0x00] { State.reset with draws := 1 } with
      pc := 0x0102, regs := { State.reset.regs with a := v } } := ⟨_, rfl⟩
theorem test_out_2 : outRow 2 0xFD (bridgeOf 1 2 0 3 4 5 6 7 8) = bridgeOf 1 2 5 3 4 5 6 7 8 := by decide
theorem test_out_4 : outRow 4 0xCD (bridgeOf 0xAB 0x11 2 3 4 5 6 7 8) = bridgeOf 0xCD 0xAB 2 3 4 5 6 7 8 := by decide
theorem test_out_3 : outRow 3 0x05 (bridgeOf 1 2 3 3 4 0x01 0x77 7 8) = bridgeOf 1 2 3 3 4 0x05 0x01 7 8 := by decide
theorem test_out_5 : outRow 5 0x10 (bridgeOf 1 2 3 3 4 5 6 0x02 0x00) = bridgeOf 1 2 3 3 4 5 6 0x10 0x02 := by decide
theorem test_out_6_nothing : outRow 6 0x10 (bridgeOf 1 2 3 3 4 5 6 7 8) = bridgeOf 1 2 3 3 4 5 6 7 8 := by decide

theorem test_output_latches :
    outputLatches { State.reset with bridge := bridgeOf 1 2 3 4 5 0x15 0x01 0x10 0x02 } = [0x15, 0x01, 0x10, 0x02] := by decide
theorem test_ei : (after (at100 [0xFB] State.reset)).intEnable = true := by decide
theorem test_di : (after (at100 [0xF3] { State.reset with intEnable := true })).intEnable = false := by decide
theorem test_hlt : (after (at100 [0x76] State.reset)).halted = true ∧
    (after (at100 [0x76] State.reset)).pc = 0x0101 := by decide
theorem test_nop : after (at100 [0x00] State.reset) = { at100 [0x00] State.reset with pc := 0x0101 } := by decide
theorem test_alias_nop_wraps : (after (withMem [(0xFFFF, 0x08)] { State.reset with pc := 0xFFFF })).pc = 0x0000 := by decide

/-! ## Interrupts and the host (2.9; S6, S7) -/

/-- A machine about to be asked for an interrupt. -/
def asked (pc sp : Word) (enabled halted : Bool) (n : InterruptNumber) : State :=
  { State.reset with pc := pc, sp := sp, intEnable := enabled, halted := halted, interruptNumber := n, schedule := [.interrupt] }

theorem test_interrupt_one : (after (asked 0x1234 0x2400 true false .one)).readWord 0x23FE = 0x1234 ∧
    (after (asked 0x1234 0x2400 true false .one)).sp = 0x23FE ∧
    (after (asked 0x1234 0x2400 true false .one)).pc = 0x0008 ∧
    (after (asked 0x1234 0x2400 true false .one)).intEnable = false ∧
    (after (asked 0x1234 0x2400 true false .one)).interruptNumber = .two := by decide
theorem test_interrupt_two_wraps : (after (asked 0xFFFF 0x0000 true false .two)).readWord 0xFFFE = 0xFFFF ∧
    (after (asked 0xFFFF 0x0000 true false .two)).sp = 0xFFFE ∧
    (after (asked 0xFFFF 0x0000 true false .two)).pc = 0x0010 ∧
    (after (asked 0xFFFF 0x0000 true false .two)).interruptNumber = .one := by decide
theorem test_interrupt_resumes_halted : (after (asked 0x0101 0x2400 true true .one)).halted = false ∧
    (after (asked 0x0101 0x2400 true true .one)).readWord 0x23FE = 0x0101 ∧
    (after (asked 0x0101 0x2400 true true .one)).pc = 0x0008 := by decide
theorem test_interrupt_lost :
    after (asked 0x0101 0x2400 false true .two) = { asked 0x0101 0x2400 false true .two with schedule := [] } := by decide
theorem test_halted_step : after { at100 [0x3C] State.reset with halted := true } = { at100 [0x3C] State.reset with halted := true } := by
  decide
theorem test_port_write : (after { State.reset with schedule := [.writePort2 0x83] }).bridge.port2 = 0x83 := by decide

/-- A machine about to be reset, with its control state and a latch away from what reset leaves. -/
def aboutToReset : State :=
  { asked 0x1234 0x2400 true true .two with schedule := [.reset (launchOf 3)], bridge := bridgeOf 0 0 0 0x5A 0 0 0 0 0 }

theorem test_reset_control : (after aboutToReset).pc = 0x0000 ∧ (after aboutToReset).halted = false ∧
    (after aboutToReset).intEnable = false ∧ (after aboutToReset).interruptNumber = .one := by decide
theorem test_reset_memory : (after aboutToReset).mem = [(0, 0x76), (1, 0x76), (2, 0x76), (3, 0x44), (0x2000, 0x99)] := by
  decide
theorem test_reset_launch_values : (after aboutToReset).regs = { a := 1, b := 2, c := 3, d := 4, e := 5, h := 6, l := 7 } ∧
    (after aboutToReset).flags = flagBits true false true false true ∧ (after aboutToReset).sp = 0x2400 ∧
    (after aboutToReset).bridge = { port1 := 0x5A, port2 := 0, outPort3 := 1, outPort3Prev := 2, outPort5 := 3, outPort5Prev := 4,
                                    shift0 := 5, shift1 := 6, shiftOffset := 7 } := by decide
theorem test_reset_keeps_input_latch : (after aboutToReset).bridge.port1 = 0x5A := by decide


/-! ## Witnesses: states and operands that meet the hypotheses of each statement, one for each clause -/

theorem test_witness_decode_encode : Instr.wf (.lxiB 0x1234) = true := by decide

theorem test_witness_encode_decode : decode [0x01, 0x34, 0x12, 0x55] = .ok (.lxiB 0x1234, [0x55]) := rfl

theorem test_witness_field_patterns : ¬(Operand.m = .m ∧ Operand.reg .a = .m) ∧ 0 < 8 ∧ 7 < 8 := by decide

theorem test_witness_halt_byte : decodeBytes 0x76 0x00 0x00 = .hlt ∧ decodeBytes 0x77 0x00 0x00 ≠ .hlt := by decide

/-- Runs at once, and after the host's `step`. -/
theorem test_witness_step_runs :
    (at100 [0x3E, 0x05] State.reset).halted = false ∧ (at100 [0x3E, 0x05] State.reset).schedule = [] ∧
    decode ((at100 [0x3E, 0x05] State.reset).fetchBytes) = .ok (.mviA 0x05, [0x00]) ∧
    ({ at100 [0x3E, 0x05] State.reset with schedule := [.step, .interrupt] } : State).schedule = .step :: [.interrupt] :=
  ⟨rfl, rfl, rfl, rfl⟩

theorem test_witness_halted_step :
    ({ State.reset with halted := true } : State).halted = true ∧ ({ State.reset with halted := true } : State).schedule = [] ∧
    ({ State.reset with halted := true, schedule := [.step] } : State).schedule = .step :: [] := ⟨rfl, rfl, rfl⟩

/-- A request with interrupts disabled, and one enabled with either vector. -/
theorem test_witness_interrupt :
    (asked 0x1234 0x2400 false false .one).schedule = .interrupt :: [] ∧ (asked 0x1234 0x2400 false false .one).intEnable = false ∧
    (asked 0x1234 0x2400 true false .one).intEnable = true ∧ (asked 0x1234 0x0000 true false .two).intEnable = true :=
  ⟨rfl, rfl, rfl, rfl⟩

/-- Two services in a row, from either vector. -/
theorem test_witness_vectors_alternate :
    step (asked 0x1234 0x2400 true false .one) = .next (after (asked 0x1234 0x2400 true false .one)) ∧
    (asked 0x0ABC 0x23FE true false .two).interruptNumber = (after (asked 0x1234 0x2400 true false .one)).interruptNumber ∧
    step (asked 0x1234 0x2400 true true .two) = .next (after (asked 0x1234 0x2400 true true .two)) ∧
    (asked 0x0ABC 0x23FE true false .one).interruptNumber = (after (asked 0x1234 0x2400 true true .two)).interruptNumber :=
  ⟨rfl, rfl, rfl, rfl⟩

/-- The interrupted program, running and halted, is resumed. -/
theorem test_witness_return_resumes :
    (exec .ret (after (asked 0x1234 0x2400 true false .one)) = .next (retOp (after (asked 0x1234 0x2400 true false .one))) ∧
      (retOp (after (asked 0x1234 0x2400 true false .one))).pc = 0x1234) ∧
    (retOp (after (asked 0x0101 0x0001 true true .two))).pc = 0x0101 := ⟨⟨rfl, by decide⟩, by decide⟩

theorem test_witness_latch_writes :
    ({ State.reset with schedule := [.writePort1 0x5A] } : State).schedule = .writePort1 0x5A :: [] ∧
    ({ State.reset with schedule := [.writePort2 0x5A] } : State).schedule = .writePort2 0x5A :: [] := ⟨rfl, rfl⟩

/-- A reset; just past the image, at a byte listed twice, and at one not listed; the same reset of another machine. -/
theorem test_witness_reset_event : aboutToReset.schedule = .reset (launchOf 3) :: [] ∧ (launchOf 3).wf = true ∧
    ((launchOf 3).image.length ≤ (0x0003 : Word).toNat ∧ launchByte (launchOf 3) 0x0003 = 0x44) ∧
    ((launchOf 3).image.length ≤ (0x2000 : Word).toNat ∧ launchByte (launchOf 3) 0x2000 = 0x99) ∧
    ((launchOf 3).image.length ≤ (0xFFFF : Word).toNat ∧ launchByte (launchOf 3) 0xFFFF = 0x00) ∧
    ({ State.reset with schedule := [.reset (launchOf 3), .step] } : State).schedule = .reset (launchOf 3) :: [.step] :=
  ⟨rfl, by decide, by decide, by decide, by decide, rfl⟩

/-- Halted for good with steps, requests and latch writes to come. -/
theorem test_witness_halted_for_good :
    State.haltedForGood { asked 0x0101 0x2400 false true .one with schedule := [.step, .interrupt, .writePort1 1, .writePort2 2] } ∧
    ∀ a ∈ [HostAction.step, .interrupt, .writePort1 1, .writePort2 2], a.isReset = false := ⟨⟨rfl, rfl⟩, by decide⟩

/-- Each change of control state happens: `halted` cleared by an interrupt and by a reset, set by `HLT`; interrupts enabled by `EI`,
disabled by `DI`, an interrupt and a reset; the vector changed by an interrupt and by a reset. -/
theorem test_witness_control_state :
    ((asked 0x0101 0x2400 true true .one).halted = true ∧ (after (asked 0x0101 0x2400 true true .one)).halted = false) ∧
    (aboutToReset.halted = true ∧ (after aboutToReset).halted = false) ∧
    ((at100 [0x76] State.reset).halted = false ∧ (after (at100 [0x76] State.reset)).halted = true) ∧
    ((at100 [0xFB] State.reset).intEnable = false ∧ (after (at100 [0xFB] State.reset)).intEnable = true) ∧
    (after (at100 [0xF3] { State.reset with intEnable := true })).intEnable = false ∧
    (aboutToReset.intEnable = true ∧ (after aboutToReset).intEnable = false) ∧
    (after (asked 0x0101 0x2400 true true .one)).interruptNumber ≠ .one ∧ (after aboutToReset).interruptNumber ≠ .two := by decide

/-- A canonical memory that a step writes to. -/
theorem test_witness_canonical_memory : State.Inv (at100 [0x77] (withRegs 0x5A 0 0 0 0 0x20 0x10)) ∧
    (after (at100 [0x77] (withRegs 0x5A 0 0 0 0 0x20 0x10))).mem = [(0x0100, 0x77), (0x2010, 0x5A)] := ⟨rfl, by decide⟩

theorem test_witness_pc_advances : transfersControl (.mviA 0x05) = false ∧ transfersControl .hlt = false ∧
    exec (.mviA 0x05) State.reset = .next (mviOp (.reg .a) 0x05 State.reset) := ⟨by decide, by decide, rfl⟩

/-- Every clause of the flag table is met by an instruction: `INX B` writes no flag, `STC` all but the carry stay. -/
theorem test_witness_flags_stay : flagsWritten .inxB = (false, false, false, false, false) ∧
    flagsWritten .stc = (false, false, false, true, false) ∧ flagsWritten .inrB = (true, true, true, false, true) ∧
    exec .inxB State.reset = .next (inxOp .b State.reset) := ⟨by decide, by decide, by decide, rfl⟩

theorem test_witness_stored_bytes : (0x2001 : Word) ∉ storeAddresses (withRegs 0 0 0 0 0 0x20 0) .movMA ∧
    (0xFFFF : Word) ∉ storeAddresses { State.reset with sp := 0x0001 } .nop ∧
    (0x2400 : Word) ∉ storeAddresses { State.reset with sp := 0x2400 } .pushB ∧
    (0x23FF : Word) ∉ storeAddresses { State.reset with sp := 0x2400 } (.cz 0x2000) := by decide

theorem test_witness_sp : writesSp .dadSp = false ∧ exec .dadSp State.reset = .next (dadOp .sp State.reset) := ⟨by decide, rfl⟩

/-- Each exception of the frame is reached by its instruction, and each clause by another. -/
theorem test_witness_control_frame :
    (exec .nop State.reset = .next (nopOp State.reset) ∧ (∀ p, Instr.nop ≠ .outPort p) ∧ (∀ p, Instr.nop ≠ .inPort p)) ∧
    Instr.nop ≠ .hlt ∧ Instr.nop ≠ .ei ∧ Instr.nop ≠ .di := by
  refine ⟨⟨rfl, ?_, ?_⟩, ?_, ?_, ?_⟩ <;> simp

/-- A `CALL` at `0x0100` whose push lands on its own operand bytes. -/
theorem test_witness_fetch : let s := at100 [0xCD, 0x00, 0x20] { State.reset with sp := 0x0103 }
    s.halted = false ∧ s.schedule = [] ∧ s.readByte s.pc = 0xCD ∧ step s = .next (after s) ∧ (after s).pc = 0x2000 ∧
    (after s).readByte 0x0101 ≠ 0x00 :=
  ⟨rfl, rfl, by decide, rfl, by decide, by decide⟩

/-- A store into the next instruction. -/
theorem test_witness_store_then_fetch : let s := at100 [0x32, 0x03, 0x01] (withRegs 0x3E 0 0 0 0 0 0)
    exec (.sta (s.pc + 3)) s = .next (after s) ∧ (after s).readByte ((after s).pc + 1) = 0x00 ∧
    (after s).readByte ((after s).pc + 2) = 0x00 :=
  ⟨rfl, by decide, by decide⟩

theorem test_witness_pairs : Pair.h ≠ .sp := by decide

/-- Both values of every condition: the flags all clear and all set. -/
theorem test_witness_conditions :
    let clear := flagBits false false false false false
    let set := flagBits true true true true true
    (condTrue clear .nz ∧ condTrue clear .nc ∧ condTrue clear .po ∧ condTrue clear .p) ∧
    (condTrue set .z ∧ condTrue set .c ∧ condTrue set .pe ∧ condTrue set .m) ∧
    (¬condTrue set .nz ∧ ¬condTrue set .nc ∧ ¬condTrue set .po ∧ ¬condTrue set .p) ∧
    (¬condTrue clear .z ∧ ¬condTrue clear .c ∧ ¬condTrue clear .pe ∧ ¬condTrue clear .m) := by
  simp [condTrue, flagBits]

theorem test_witness_restarts : (0 < 8 ∧ rstInstr 0 = .rst0) ∧ 7 < 8 ∧ rstInstr 7 = .rst7 := by decide

/-- A call across the top of the address space with an alias return, and a taken conditional call with a taken conditional return. -/
theorem test_witness_call_return :
    Instr.callED 0x2000 ∈ [Instr.call 0x2000, .callDD 0x2000, .callED 0x2000, .callFD 0x2000, rstInstr 7] ∧
    Instr.retD9 ∈ [Instr.ret, .retD9] ∧
    exec (.callED 0x2000) { State.reset with pc := 0xFFFE, sp := 0x0001 } =
      .next (callOp 0x2000 { State.reset with pc := 0xFFFE, sp := 0x0001 }) ∧
    condTrue State.reset.flags .nc ∧ condTrue (callOp 0x2000 State.reset).flags .p ∧
    exec (callIfInstr .nc 0x2000) State.reset = .next (callOp 0x2000 State.reset) := ⟨by decide, by decide, rfl, rfl, rfl, rfl⟩

theorem test_witness_pop_psw : exec .pushPsw { withRegs 0x9A 0 0 0 0 0 0 with flags := flagBits true false true true false } =
    .next (pushOp .psw { withRegs 0x9A 0 0 0 0 0 0 with flags := flagBits true false true true false }) := rfl

/-- The listed input ports, and one that is not. -/
theorem test_witness_input_ports : (inputListed 1 && inputListed 2 && inputListed 3) = true ∧ inputListed 0 = false := by decide

/-- `OUT 4` of `0xAB`, `OUT 4` of `0xCD`, `OUT 2` of 4, `IN 3`, with the accumulator reloaded in between (S5). -/
theorem test_witness_shift_register :
    let s0 := withRegs 0xAB 0 0 0 0 0 0
    let t1 := outOp 4 s0
    let s1 := { withRegs 0xCD 0 0 0 0 0 0 with bridge := t1.bridge }
    let t2 := outOp 4 s1
    let s2 := { withRegs 0x04 0 0 0 0 0 0 with bridge := t2.bridge }
    let t3 := outOp 2 s2
    exec (.outPort 4) s0 = .next t1 ∧ exec (.outPort 4) s1 = .next t2 ∧ exec (.outPort 2) s2 = .next t3 ∧
    exec (.inPort 3) t3 = .next (inOp 3 t3) ∧ (inOp 3 t3).regs.a = 0xDA :=
  ⟨rfl, rfl, rfl, rfl, by decide⟩

theorem test_witness_no_operations : (0 < 8 ∧ nopInstr 0 = .nop) ∧ 7 < 8 ∧ nopInstr 7 = .nop38 := by decide

theorem test_witness_enable_disable_halt : (asked 0x0100 0x2400 false false .two).schedule = .interrupt :: [] ∧
    ({ State.reset with schedule := [.step, .step] } : State).schedule = .step :: [.step] := ⟨rfl, rfl⟩


end Sys2Proof.Tests
end

section
/-! PROOFS. The statements about the state: canonical memory, reset, the host's latch writes, control state, and what every
instruction does to `pc`, `sp`, the flags and the port state. The facts about all instructions are proved by form and carried to
the instructions by one table lemma each. -/

namespace Sys2Proof.Machine

/-! ## Canonical memory -/

/-- An instruction step keeps the canonical form of memory, halted or not. -/
theorem wf_of_runInstr {s t : State} (hs : Memory.wf s.mem = true) (h : runInstr s = .next t) : Memory.wf t.mem = true := by
  obtain ⟨-, rfl⟩ | ⟨-, rfl⟩ := runInstr_cases h
  · exact hs
  · exact Form.wf_effect _ _ hs

/-- An interrupt request keeps the canonical form of memory, accepted or not. -/
theorem wf_serviceInterrupt {s : State} (hs : Memory.wf s.mem = true) : Memory.wf (serviceInterrupt s).mem = true := by
  cases he : s.intEnable with
  | true => rw [serviceInterrupt_enabled he, takeInterrupt_mem]; exact wf_push16 _ hs
  | false => rwa [serviceInterrupt_disabled he]

/-- Settles O19, by the kinds of transition. -/
theorem stepKeepsCanonicalMemory : Obligations.StepKeepsCanonicalMemory := by
  unfold Obligations.StepKeepsCanonicalMemory State.Inv
  intro s t hs hstep
  obtain ⟨-, hr⟩ | ⟨rest, -, hr⟩ | ⟨rest, -, rfl⟩ | ⟨v, rest, -, rfl⟩ | ⟨v, rest, -, rfl⟩ | ⟨l, rest, -, rfl⟩ :=
    step_cases hstep
  · exact wf_of_runInstr hs hr
  · exact wf_of_runInstr (s := s.setSchedule rest) hs hr
  · exact wf_serviceInterrupt (s := s.setSchedule rest) hs
  · exact hs
  · exact hs
  · exact wf_launch _ l

/-- Settles O20: memory is empty after reset. -/
theorem resetHasCanonicalMemory : Obligations.ResetHasCanonicalMemory := rfl

/-! ## Reset and the host's latch writes -/

theorem step_reset {s : State} {l : Launch} {later : List HostAction} (h : s.schedule = .reset l :: later) :
    step s = .next (launch l (s.setSchedule later)) := step_eq_perform h

/-- Right after a reset the machine is in a launch state of the image, if the image fits the address space. -/
theorem isLaunch_launch (s : State) {l : Launch} (h : l.wf = true) : (launch l s).isLaunch l.image := by
  refine ⟨rfl, rfl, rfl, rfl, fun k v hv => ?_⟩
  have hlen : l.image.length ≤ 65536 := by simpa [Launch.wf] using h
  have hat := Memory.read_load_at l.image (Memory.writeAll [] l.mem) 0 hlen k v hv
  simpa [State.readByte] using hat

/-- Two machines that take the same reset differ at most in the input latches and the model's own fields. -/
theorem launch_eq_launch_with (l : Launch) (s s' : State) :
    launch l s' = { launch l s with
      schedule := s'.schedule, draws := s'.draws,
      bridge := { (launch l s).bridge with port1 := s'.bridge.port1, port2 := s'.bridge.port2 } } := rfl

/-- Settles O14: the transition is the event `Reset`, and every field after it is read off. -/
theorem resetEvent : Obligations.ResetEvent := by
  unfold Obligations.ResetEvent
  intro s l later hs hwf
  refine ⟨launch l (s.setSchedule later), step_reset hs, isLaunch_launch _ hwf,
    rfl, rfl, rfl, rfl, rfl, rfl, rfl, rfl, rfl, rfl, rfl, rfl,
    fun x hx => readByte_launch_outside _ l x hx, fun s' later' hs' => ?_⟩
  rw [step_reset hs', launch_eq_launch_with l (s.setSchedule later)]
  rfl

/-- Settles O15. -/
theorem resetState : Obligations.ResetState := by
  refine ⟨rfl, rfl, rfl, rfl, ⟨rfl, rfl, rfl, rfl, fun k v hv => ?_⟩, rfl, fun r => ?_⟩
  · simp at hv
  · cases r <;> rfl

/-- Settles O13: each write is the next action of the schedule. -/
theorem hostWritesInputLatches : Obligations.HostWritesInputLatches := by
  unfold Obligations.HostWritesInputLatches
  intro s v later
  exact ⟨fun h => step_eq_perform h, fun h => step_eq_perform h⟩

/-! ## `pc` -/

/-- The forms that transfer control (R15). -/
def Form.transfers : Form → Bool
  | .jmp _ | .jumpIf _ _ | .pchl | .call _ | .callIf _ _ | .ret | .returnIf _ | .rst _ => true
  | _ => false

/-- The length of a form in bytes (R60). -/
def Form.length : Form → Nat
  | .lxi _ _ | .lda _ | .sta _ | .lhld _ | .shld _ | .jmp _ | .jumpIf _ _ | .call _ | .callIf _ _ => 3
  | .mvi _ _ | .aluImm _ _ | .input _ | .output _ => 2
  | _ => 1

/-- A form that transfers no control moves `pc` past its bytes. -/
theorem Form.pc_effect (f : Form) (s : State) (h : f.transfers = false) :
    (f.effect s).pc = s.pc + BitVec.ofNat 16 f.length := by
  cases f with
  | jmp | jumpIf | pchl | call | callIf | ret | returnIf | rst => exact Bool.noConfusion h
  | mov o | mvi o | inr o | dcr o => cases o <;> rfl
  | lxi p | inx p | dcx p | pop p => cases p <;> rfl
  | alu op | aluImm op => cases op <;> rfl
  | _ => rfl

/-- The opcode bytes `transfersControl` lists are those of the forms that transfer control. -/
theorem Form.transfers_of (i : Instr) : (Form.of i).transfers = Claims.transfersControl i := by
  unfold Claims.transfersControl
  generalize h : i.opcode = op
  cases i <;> simp only [Instr.opcode, encode, List.headD_cons] at h <;> subst h <;> rfl

theorem Form.length_of (i : Instr) : (Form.of i).length = i.length := by cases i <;> rfl

/-- Settles O21, by form. -/
theorem pcAdvancesByTheLength : Obligations.PcAdvancesByTheLength := by
  unfold Obligations.PcAdvancesByTheLength
  intro i s t hi h
  rw [exec_eq_effect] at h
  cases h
  rw [Form.pc_effect _ s ((Form.transfers_of i).trans hi), Form.length_of]

/-! ## Flags -/

/-- R17's table by opcode byte is the table by form. -/
theorem Form.flagMask_of (i : Instr) : (Form.of i).flagMask = Claims.flagsWritten i := by
  unfold Claims.flagsWritten
  generalize h : i.opcode = op
  cases i <;> simp only [Instr.opcode, encode, List.headD_cons] at h <;> subst h <;> rfl

/-- Settles O22, by form. -/
theorem flagsOutsideTheTableStay : Obligations.FlagsOutsideTheTableStay := by
  unfold Obligations.FlagsOutsideTheTableStay
  intro i s t h
  rw [exec_eq_effect] at h
  cases h
  rw [← Form.flagMask_of]
  exact Form.flags_outside_mask (Form.of i) s

/-! ## `sp` -/

/-- The forms that write `sp` (R13). -/
def Form.writesSp : Form → Bool
  | .lxi .sp _ | .inx .sp | .dcx .sp | .sphl => true
  | .push _ | .pop _ | .call _ | .callIf _ _ | .ret | .returnIf _ | .rst _ => true
  | _ => false

/-- Every other form keeps `sp`. -/
theorem Form.sp_effect (f : Form) (s : State) (h : f.writesSp = false) : (f.effect s).sp = s.sp := by
  cases f with
  | sphl | push | pop | call | callIf | ret | returnIf | rst => exact Bool.noConfusion h
  | lxi p | inx p | dcx p =>
    cases p with
    | sp => exact Bool.noConfusion h
    | b | d | h => rfl
  | mov o | mvi o | inr o | dcr o => cases o <;> rfl
  | alu op | aluImm op => cases op <;> rfl
  | jumpIf => simp only [Form.effect, jumpIfOp]; split <;> rfl
  | _ => rfl

theorem Form.writesSp_of (i : Instr) : (Form.of i).writesSp = Claims.writesSp i := by cases i <;> rfl

/-- Settles O24, by form. -/
theorem spChangesOnlyByItsInstructions : Obligations.SpChangesOnlyByItsInstructions := by
  unfold Obligations.SpChangesOnlyByItsInstructions
  intro i s t h hi
  rw [exec_eq_effect] at h
  cases h
  exact Form.sp_effect _ s ((Form.writesSp_of i).trans hi)

/-! ## Control and port state -/

/-- Settles O25, by form: each form that may write one of these fields is that of one instruction. -/
theorem instructionsKeepControlAndPortState : Obligations.InstructionsKeepControlAndPortState := by
  unfold Obligations.InstructionsKeepControlAndPortState
  intro i s t h
  rw [exec_eq_effect] at h
  cases h
  obtain ⟨hp1, hp2, hbridge, hhalt, hint, hnum, hsched, hdraws⟩ := Form.control_frame (Form.of i) s
  exact ⟨hp1, hp2,
    fun hi => hbridge fun p hp => hi p (Form.of_eq_output hp),
    fun hi => hhalt (mt Form.of_eq_hlt hi),
    fun hei hdi => hint (mt Form.of_eq_ei hei) (mt Form.of_eq_di hdi),
    hnum, hsched,
    fun hi => hdraws fun p hp => hi p (Form.of_eq_input hp)⟩

/-- Two states agree on `halted`, `int_enable` and `interrupt_number`. -/
def State.sameControl (s t : State) : Prop :=
  t.halted = s.halted ∧ t.intEnable = s.intEnable ∧ t.interruptNumber = s.interruptNumber

/-- The next transition runs instruction `i`. -/
def State.runs (s : State) (i : Instr) : Prop :=
  s.halted = false ∧ (s.schedule = [] ∨ ∃ later, s.schedule = .step :: later) ∧ fetchInstr s = i

/-- What a transition from `s` to `t` can do to the control state, by what happens in it. -/
inductive ControlChange (s t : State) : Prop
  | none (same : s.sameControl t)
  | hlt (runs : s.runs .hlt) (halted : t.halted = true) (intEnable : t.intEnable = s.intEnable)
      (interruptNumber : t.interruptNumber = s.interruptNumber)
  | ei (runs : s.runs .ei) (halted : t.halted = s.halted) (intEnable : t.intEnable = true)
      (interruptNumber : t.interruptNumber = s.interruptNumber)
  | di (runs : s.runs .di) (halted : t.halted = s.halted) (intEnable : t.intEnable = false)
      (interruptNumber : t.interruptNumber = s.interruptNumber)
  | serviced (enabled : s.intEnable = true) (requested : ∃ later, s.schedule = .interrupt :: later)
      (halted : t.halted = false)
  | reset (requested : ∃ l later, s.schedule = .reset l :: later) (halted : t.halted = false) (intEnable : t.intEnable = false)

/-- An instruction step changes the control state by `HLT`, `EI` or `DI`, or not at all. It starts from `s` less the action the
schedule may hold. -/
theorem controlChange_of_runInstr {s t : State} {rest : List HostAction}
    (hsched : s.schedule = [] ∨ ∃ later, s.schedule = .step :: later)
    (h : runInstr (s.setSchedule rest) = .next t) : ControlChange s t := by
  obtain ⟨-, rfl⟩ | ⟨hrun, rfl⟩ := runInstr_cases h
  · exact .none ⟨rfl, rfl, rfl⟩
  have hruns : ∀ i, fetchInstr s = i → s.runs i := fun i hi => ⟨hrun, hsched, hi⟩
  rw [show fetchInstr (s.setSchedule rest) = fetchInstr s from rfl]
  by_cases hhlt : fetchInstr s = .hlt
  · rw [hhlt]; exact .hlt (hruns _ hhlt) rfl rfl rfl
  by_cases hei : fetchInstr s = .ei
  · rw [hei]; exact .ei (hruns _ hei) rfl rfl rfl
  by_cases hdi : fetchInstr s = .di
  · rw [hdi]; exact .di (hruns _ hdi) rfl rfl rfl
  obtain ⟨-, -, -, hhalted, hint, hnum, -, -⟩ :=
    instructionsKeepControlAndPortState _ (s.setSchedule rest) _ (exec_eq_effect (fetchInstr s) _)
  exact .none ⟨hhalted hhlt, hint hei hdi, hnum⟩

/-- Every transition is one of the cases of `ControlChange`. -/
theorem controlChange_of_step {s t : State} (h : step s = .next t) : ControlChange s t := by
  obtain ⟨hs, hr⟩ | ⟨rest, hs, hr⟩ | ⟨rest, hs, rfl⟩ | ⟨v, rest, -, rfl⟩ | ⟨v, rest, -, rfl⟩ | ⟨l, rest, hs, rfl⟩ :=
    step_cases h
  · refine controlChange_of_runInstr (rest := []) (.inl hs) ?_
    rwa [show s.setSchedule [] = s by rw [← hs]; rfl]
  · exact controlChange_of_runInstr (.inr ⟨rest, hs⟩) hr
  · cases he : s.intEnable with
    | true =>
      rw [serviceInterrupt_enabled (s := s.setSchedule rest) he]
      exact .serviced he ⟨rest, hs⟩ rfl
    | false =>
      rw [serviceInterrupt_disabled (s := s.setSchedule rest) he]
      exact .none ⟨rfl, rfl, rfl⟩
  · exact .none ⟨rfl, rfl, rfl⟩
  · exact .none ⟨rfl, rfl, rfl⟩
  · exact .reset ⟨l, rest, hs⟩ rfl rfl

/-- Settles O18, by what happens in the transition. -/
theorem onlyTheseEventsChangeControlState : Obligations.OnlyTheseEventsChangeControlState := by
  unfold Obligations.OnlyTheseEventsChangeControlState
  intro s t h serviced reset runs
  cases controlChange_of_step h with
  | none same =>
    obtain ⟨hh, hi, hn⟩ := same
    simp_all
  | hlt hr hh hi hn =>
    have hlt : runs .hlt := hr
    simp_all
  | ei hr hh hi hn =>
    have hei : runs .ei := hr
    simp_all
  | di hr hh hi hn =>
    have hdi : runs .di := hr
    simp_all
  | serviced he hq hh =>
    have hs : serviced := ⟨he, hq⟩
    simp_all
  | reset hq hh hi =>
    have hr : reset := hq
    simp_all

/-! ## Writes -/

theorem Regs.setBC_eq (g : Regs) (v : Word) :
    g.setBC v = { g with b := BitVec.ofNat 8 (v.toNat / 256), c := BitVec.ofNat 8 (v.toNat % 256) } := by
  rw [Regs.setBC, hiByte_eq_ofNat, loByte_eq_ofNat]

theorem Regs.setDE_eq (g : Regs) (v : Word) :
    g.setDE v = { g with d := BitVec.ofNat 8 (v.toNat / 256), e := BitVec.ofNat 8 (v.toNat % 256) } := by
  rw [Regs.setDE, hiByte_eq_ofNat, loByte_eq_ofNat]

theorem Regs.setHL_eq (g : Regs) (v : Word) :
    g.setHL v = { g with h := BitVec.ofNat 8 (v.toNat / 256), l := BitVec.ofNat 8 (v.toNat % 256) } := by
  rw [Regs.setHL, hiByte_eq_ofNat, loByte_eq_ofNat]

/-- A word written stores its low byte at the address and its high byte at the next. -/
theorem storesWord_writeWord (s : State) (addr v : Word) :
    Claims.storesWord s (s.writeWord addr v) addr (BitVec.ofNat 8 (v.toNat / 256)) (BitVec.ofNat 8 (v.toNat % 256)) := by
  intro x
  rw [State.readByte_writeWord, ← hiByte_eq_ofNat, ← loByte_eq_ofNat]
  by_cases hx : x = addr
  · subst hx
    simp
  · simp [hx]

/-- Settles O26. -/
theorem writesAreLocal : Obligations.WritesAreLocal := by
  unfold Obligations.WritesAreLocal
  intro s g addr x v b r r'
  exact ⟨State.readByte_writeByte s addr x b, storesWord_writeWord s addr v, mkWord_toNat _ _, Regs.get_set g r r' b,
    mkWord_toNat _ _, mkWord_toNat _ _, mkWord_toNat _ _, Regs.setBC_eq g v, Regs.setDE_eq g v, Regs.setHL_eq g v⟩

end Sys2Proof.Machine
end

section
/-! PROOFS. The statements about memory: an instruction changes only the bytes it stores to, and a step reads its operands before it
writes, so that the next fetch sees what it wrote. -/

namespace Sys2Proof.Machine

/-! ## The bytes an instruction stores to -/

/-- The store addresses by instruction are those by form. -/
theorem Form.stored_of (s : State) (i : Instr) : Form.stored s (Form.of i) = Claims.storeAddresses s i := by cases i <;> rfl

/-- Settles O23, by form. -/
theorem onlyTheStoredBytesChange : Obligations.OnlyTheStoredBytesChange := by
  unfold Obligations.OnlyTheStoredBytesChange
  intro i s t h x hx
  rw [exec_eq_effect] at h
  cases h
  rw [← Form.stored_of] at hx
  exact Form.readByte_other _ s x hx

/-! ## Fetching before and after a store -/

/-- A `CALL` byte at `pc` is fetched as a call of the word that follows it, low byte first. -/
theorem fetchInstr_call {s : State} (h : s.readByte s.pc = 0xCD) :
    fetchInstr s = .call (mkWord (s.readByte (s.pc + 2)) (s.readByte (s.pc + 1))) := by
  rw [fetchInstr, h]
  rfl

/-- With no host action waiting and not halted, a step executes the instruction at `pc`. -/
theorem step_running {s : State} (hrun : s.halted = false) (hsched : s.schedule = []) :
    step s = .next ((Form.of (fetchInstr s)).effect s) := by
  rw [step_eq_runInstr hsched, runInstr_running hrun]

/-- A step at a `CALL` byte goes to the word that follows the byte before the step. -/
theorem pc_of_step_call {s t : State} (hrun : s.halted = false) (hsched : s.schedule = [])
    (hop : s.readByte s.pc = 0xCD) (h : step s = .next t) :
    t.pc = mkWord (s.readByte (s.pc + 2)) (s.readByte (s.pc + 1)) := by
  rw [step_running hrun hsched, fetchInstr_call hop] at h
  cases h
  rfl

/-- The address a `STA` stores to reads `A` afterwards. -/
theorem staOp_readByte_same (s : State) (addr : Word) : (staOp addr s).readByte addr = s.regs.a :=
  (State.readByte_writeByte s addr addr s.regs.a).trans (if_pos rfl)

/-- Settles O27: a call's target is part of the instruction fetched before the push, and the byte a `STA` stores is the opcode the
next fetch reads. -/
theorem fetchSeesStoresAndOperandsComeFirst : Obligations.FetchSeesStoresAndOperandsComeFirst := by
  unfold Obligations.FetchSeesStoresAndOperandsComeFirst
  constructor
  · intro s t hrun hsched hop h
    rw [pc_of_step_call hrun hsched hop h, mkWord_toNat]
  · intro s t b1 b2 h h1 h2
    rw [exec_eq_effect] at h
    cases h
    have hop : (staOp (s.pc + 3) s).readByte (staOp (s.pc + 3) s).pc = s.regs.a := staOp_readByte_same s _
    rw [fetchInstr, h1, h2]
    exact congrArg (decodeBytes · b1 b2) hop

end Sys2Proof.Machine
end

section
/-! PROOFS. The statements about the encoding: decoding and encoding undo each other, every opcode byte has its instruction and
length, the field patterns, `HLT`, and the aliases of R69. -/

namespace Sys2Proof

/-! ## Decoding and encoding -/

/-- Decoding succeeds exactly on the bytes of an opcode, as many as its length, before the rest. -/
theorem decode_eq_ok_iff {bytes rest : List Byte} {i : Instr} :
    decode bytes = .ok (i, rest) ↔
      ∃ op b1 b2, decodeBytes op b1 b2 = i ∧ [op, b1, b2].take (opcodeLength op) ++ rest = bytes := by
  constructor
  · intro h
    cases bytes with
    | nil => cases h
    | cons op tail =>
      rcases opcodeLength_cases op with hl | hl | hl <;> simp only [decode, hl] at h
      · cases h
        exact ⟨op, 0, 0, rfl, by rw [hl]; rfl⟩
      · rcases tail with _ | ⟨b1, tail⟩ <;> cases h
        exact ⟨op, b1, 0, rfl, by rw [hl]; rfl⟩
      · rcases tail with _ | ⟨b1, _ | ⟨b2, tail⟩⟩ <;> cases h
        exact ⟨op, b1, b2, rfl, by rw [hl]; rfl⟩
  · rintro ⟨op, b1, b2, rfl, rfl⟩
    rcases opcodeLength_cases op with hl | hl | hl <;> simp only [decode, hl, List.take, List.cons_append, List.nil_append]
    · rw [decodeBytes_of_length_le_one b1 b2 (by omega)]
    · rw [decodeBytes_of_length_le_two b1 b2 (by omega)]

theorem exists_mkWord (v : Word) : ∃ hi lo, mkWord hi lo = v := ⟨hiByte v, loByte v, mkWord_hi_lo v⟩

/-- Every instruction is what its opcode byte and some operand bytes decode to, by the formats of R61. -/
theorem exists_decodeBytes (i : Instr) : ∃ b1 b2, decodeBytes i.opcode b1 b2 = i := by
  cases i with
  | lxiB v | lxiD v | lxiH v | lxiSp v | shld v | lhld v | sta v | lda v
  | jmp v | jmpCB v | jnz v | jz v | jnc v | jc v | jpo v | jpe v | jp v | jm v
  | call v | callDD v | callED v | callFD v | cnz v | cz v | cnc v | cc v | cpo v | cpe v | cp v | cm v =>
    obtain ⟨hi, lo, rfl⟩ := exists_mkWord v
    simp only [Instr.opcode, encode, List.headD_cons]
    exact ⟨lo, hi, rfl⟩
  | mviB v | mviC v | mviD v | mviE v | mviH v | mviL v | mviM v | mviA v
  | adi v | aci v | sui v | sbi v | ani v | xri v | ori v | cpi v | inPort v | outPort v =>
    simp only [Instr.opcode, encode, List.headD_cons]
    exact ⟨v, 0, rfl⟩
  | _ => exact ⟨0, 0, rfl⟩

theorem decode_encode (i : Instr) (rest : List Byte) : decode (encode i ++ rest) = .ok (i, rest) := by
  obtain ⟨b1, b2, h⟩ := exists_decodeBytes i
  refine decode_eq_ok_iff.mpr ⟨i.opcode, b1, b2, h, ?_⟩
  rw [← encode_decodeBytes, h]

/-- Settles O1: every instruction is decoded from its own bytes, and the decoder stops where they end. -/
theorem decodeEncodeAgree : Obligations.DecodeEncodeAgree :=
  fun i rest _ => decode_encode i rest

/-- Settles O2: what decodes is as many bytes as the opcode's length, and those are the bytes of the instruction read from them. -/
theorem encodeDecodeAgree : Obligations.EncodeDecodeAgree := by
  unfold Obligations.EncodeDecodeAgree
  intro bytes rest i h
  obtain ⟨op, b1, b2, rfl, rfl⟩ := decode_eq_ok_iff.mp h
  rw [encode_decodeBytes]

/-! ## The opcode byte -/

theorem opcode_decodeBytes (op b1 b2 : Byte) : (decodeBytes op b1 b2).opcode = op := by
  rw [Instr.opcode, encode_decodeBytes]
  rcases opcodeLength_cases op with hl | hl | hl <;> rw [hl] <;> rfl

theorem length_decodeBytes (op b1 b2 : Byte) : (decodeBytes op b1 b2).length = opcodeLength op := by
  rw [Instr.length, encode_decodeBytes]
  rcases opcodeLength_cases op with hl | hl | hl <;> rw [hl] <;> rfl

/-- Settles O3: the instruction is that of `decodeBytes`, and the statement's table is that of `opcodeLength`. -/
theorem everyOpcodeByteDecodes : Obligations.EveryOpcodeByteDecodes := by
  unfold Obligations.EveryOpcodeByteDecodes
  intro op b1 b2 rest
  refine ⟨decodeBytes op b1 b2, ?_, opcode_decodeBytes op b1 b2, length_decodeBytes op b1 b2⟩
  rw [length_decodeBytes, decode_three]

/-- Settles O5: the opcode byte of what is decoded is the byte it is decoded from. -/
theorem haltByteIsNoMove : Obligations.HaltByteIsNoMove := by
  unfold Obligations.HaltByteIsNoMove
  intro op b1 b2
  constructor
  · intro h
    calc op = (decodeBytes op b1 b2).opcode := (opcode_decodeBytes op b1 b2).symm
      _ = Instr.opcode .hlt := by rw [h]
  · rintro rfl
    rfl

/-- Settles O6: each word is the encoding of its instruction. -/
theorem wordsOfTheSpec : Obligations.WordsOfTheSpec :=
  ⟨decode_encode .movAB [], decode_encode (.mviA 0x05) [], decode_encode (.mviB 0x03) [], decode_encode .addB [],
    decode_encode (.lxiH 0x1234) [], decode_encode (.call 0x2000) [], decode_encode (.outPort 0x04) [],
    decode_encode .pchl [0x55]⟩

end Sys2Proof

namespace Sys2Proof.Claims

/-! ## The field patterns (R62), family by family -/

/-- The pattern reaches the slot of `HLT` too. -/
theorem encode_movInstr (x y : Operand) :
    encode (movInstr x y) = [byte (0b01000000 + 8 * operandCode x + operandCode y)] := by
  cases x with
  | m => cases y with
    | m => rfl
    | reg r => cases r <;> rfl
  | reg q => cases y with
    | m => cases q <;> rfl
    | reg r => cases q <;> cases r <;> rfl

theorem encode_mviInstr (x : Operand) (v : Byte) : encode (mviInstr x v) = [byte (0b00000110 + 8 * operandCode x), v] := by
  cases x with
  | m => rfl
  | reg r => cases r <;> rfl

theorem encode_inrInstr (x : Operand) : encode (inrInstr x) = [byte (0b00000100 + 8 * operandCode x)] := by
  cases x with
  | m => rfl
  | reg r => cases r <;> rfl

theorem encode_dcrInstr (x : Operand) : encode (dcrInstr x) = [byte (0b00000101 + 8 * operandCode x)] := by
  cases x with
  | m => rfl
  | reg r => cases r <;> rfl

theorem encode_aluInstr (op : AluOp) (y : Operand) :
    encode (aluInstr op y) = [byte (0b10000000 + 8 * aluCode op + operandCode y)] := by
  cases y with
  | m => cases op <;> rfl
  | reg r => cases op <;> cases r <;> rfl

theorem encode_aluImmInstr (op : AluOp) (v : Byte) : encode (aluImmInstr op v) = [byte (0b11000110 + 8 * aluCode op), v] := by
  cases op <;> rfl

theorem encode_lxiInstr (p : Pair) (w : Word) :
    encode (lxiInstr p w) = [byte (0b00000001 + 16 * pairCode p), loByte w, hiByte w] := by
  cases p <;> rfl

theorem encode_dadInstr (p : Pair) : encode (dadInstr p) = [byte (0b00001001 + 16 * pairCode p)] := by cases p <;> rfl

theorem encode_inxInstr (p : Pair) : encode (inxInstr p) = [byte (0b00000011 + 16 * pairCode p)] := by cases p <;> rfl

theorem encode_dcxInstr (p : Pair) : encode (dcxInstr p) = [byte (0b00001011 + 16 * pairCode p)] := by cases p <;> rfl

theorem encode_staxInstr (r : BasePair) : encode (staxInstr r) = [byte (0b00000010 + 16 * basePairCode r)] := by
  cases r <;> rfl

theorem encode_ldaxInstr (r : BasePair) : encode (ldaxInstr r) = [byte (0b00001010 + 16 * basePairCode r)] := by
  cases r <;> rfl

theorem encode_pushInstr (q : StackPair) : encode (pushInstr q) = [byte (0b11000101 + 16 * stackPairCode q)] := by
  cases q <;> rfl

theorem encode_popInstr (q : StackPair) : encode (popInstr q) = [byte (0b11000001 + 16 * stackPairCode q)] := by
  cases q <;> rfl

theorem encode_jumpIfInstr (cond : Cond) (w : Word) :
    encode (jumpIfInstr cond w) = [byte (0b11000010 + 8 * condCode cond), loByte w, hiByte w] := by
  cases cond <;> rfl

theorem encode_callIfInstr (cond : Cond) (w : Word) :
    encode (callIfInstr cond w) = [byte (0b11000100 + 8 * condCode cond), loByte w, hiByte w] := by
  cases cond <;> rfl

theorem encode_returnIfInstr (cond : Cond) : encode (returnIfInstr cond) = [byte (0b11000000 + 8 * condCode cond)] := by
  cases cond <;> rfl

theorem encode_rstInstr {n : Nat} (h : n < 8) : encode (rstInstr n) = [byte (0b11000111 + 8 * n)] := by
  interval_cases n <;> rfl

theorem encode_nopInstr {n : Nat} (h : n < 8) : encode (nopInstr n) = [byte (8 * n)] := by
  interval_cases n <;> rfl

/-- Settles O4, family by family. -/
theorem fieldPatterns : Obligations.FieldPatterns := by
  unfold Obligations.FieldPatterns
  intro x y p q r cond op v w n
  have hlo : byte (w.toNat % 256) = loByte w := (loByte_eq_ofNat w).symm
  have hhi : byte (w.toNat / 256) = hiByte w := (hiByte_eq_ofNat w).symm
  rw [hlo, hhi]
  exact ⟨fun _ => encode_movInstr x y, rfl, rfl, encode_mviInstr x v, encode_inrInstr x, encode_dcrInstr x,
    encode_aluInstr op y, encode_aluImmInstr op v, encode_lxiInstr p w, encode_dadInstr p, encode_inxInstr p,
    encode_dcxInstr p, encode_staxInstr r, encode_ldaxInstr r, encode_pushInstr q, encode_popInstr q,
    encode_jumpIfInstr cond w, encode_callIfInstr cond w, encode_returnIfInstr cond, encode_rstInstr, encode_nopInstr⟩

end Sys2Proof.Claims

namespace Sys2Proof.Machine

/-! ## Aliases (R69) -/

theorem exec_congr_form {i j : Instr} (h : Form.of i = Form.of j) (s : State) : exec i s = exec j s := by
  rw [exec_eq_effect, exec_eq_effect, h]

theorem length_congr_form {i j : Instr} (h : Form.of i = Form.of j) : i.length = j.length := by
  rw [← Form.length_of, ← Form.length_of, h]

/-- Settles O7: each of the twelve has the form of the instruction it aliases. -/
theorem aliasesExecuteAsTheirCore : Obligations.AliasesExecuteAsTheirCore := by
  unfold Obligations.AliasesExecuteAsTheirCore
  intro s w
  refine ⟨rfl, fun p hp => ?_⟩
  obtain ⟨hform, htail⟩ : Form.of p.1 = Form.of p.2 ∧ (encode p.1).tail = (encode p.2).tail := by
    fin_cases hp <;> exact ⟨rfl, rfl⟩
  exact ⟨exec_congr_form hform s, length_congr_form hform, htail⟩

end Sys2Proof.Machine
end

section
/-! PROOFS. The statements about the flags at work: the bitwise operations and the flags they leave, the conditional jumps, and
the packed flag byte that `PUSH PSW` stores and `POP PSW` takes apart. -/

namespace Sys2Proof.Claims

/-! ## The operand bytes of an address, as the statements write them -/

theorem byte_mod_eq_loByte (w : Word) : byte (w.toNat % 256) = loByte w := (loByte_eq_ofNat w).symm

theorem byte_div_eq_hiByte (w : Word) : byte (w.toNat / 256) = hiByte w := (hiByte_eq_ofNat w).symm

end Sys2Proof.Claims

namespace Sys2Proof.Machine

/-! ## Bitwise operations -/

/-- The flags `z`, `s` and `p` that `SetZSP(v)` writes are those of `v` (R89). -/
theorem zspOf_setZSP (v : Byte) (f : Flags) : Claims.zspOf v (setZSP v f) := ⟨setZSP_z v f, setZSP_s v f, setZSP_p v f⟩

/-- Ending an instruction with `Logic8(r)` is what R150 says of a bitwise operation. -/
theorem logical_setResult_logic8 (s : State) (r : Byte) (n : Nat) : Claims.logical s (s.setResult (logic8 r) n) r n :=
  ⟨rfl, rfl, zspOf_setZSP r _, rfl⟩

/-- Every arithmetic or logic instruction applies its selector's operation to its operand. -/
theorem exec_aluInstr (op : AluOp) (src : Operand) (s : State) :
    exec (aluInstr op src) s = .next (aluEffect op (s.readOperand src) 1 s) := by
  cases src with
  | m => cases op <;> rfl
  | reg r => cases op <;> cases r <;> rfl

/-- Settles O41: each instruction ends with `Logic8` of its result. -/
theorem bitwiseOperations : Obligations.BitwiseOperations := by
  unfold Obligations.BitwiseOperations
  intro src v s
  exact
    ⟨Claims.encode_aluInstr .ana src, ⟨_, exec_aluInstr .ana src s, logical_setResult_logic8 s _ 1⟩,
      rfl, ⟨_, exec_eq_effect (.ani v) s, logical_setResult_logic8 s _ 2⟩,
      Claims.encode_aluInstr .xra src, ⟨_, exec_aluInstr .xra src s, logical_setResult_logic8 s _ 1⟩,
      rfl, ⟨_, exec_eq_effect (.xri v) s, logical_setResult_logic8 s _ 2⟩,
      Claims.encode_aluInstr .ora src, ⟨_, exec_aluInstr .ora src s, logical_setResult_logic8 s _ 1⟩,
      rfl, ⟨_, exec_eq_effect (.ori v) s, logical_setResult_logic8 s _ 2⟩⟩

/-! ## Jumps -/

/-- `Cond(ccc)` holds when the flag the code names has the value it names (R66, R92). -/
theorem condHolds_iff (f : Flags) (cond : Cond) : condHolds f cond = true ↔ Claims.condTrue f cond := by
  cases cond <;> simp [condHolds, Claims.condTrue]

theorem exec_jumpIfInstr (cond : Cond) (w : Word) (s : State) :
    exec (jumpIfInstr cond w) s = .next (jumpIfOp cond w s) := by
  cases cond <;> rfl

theorem jumpIfOp_taken {cond : Cond} {s : State} (w : Word) (h : Claims.condTrue s.flags cond) :
    jumpIfOp cond w s = s.setPc w := if_pos ((condHolds_iff _ _).mpr h)

theorem jumpIfOp_not_taken {cond : Cond} {s : State} (w : Word) (h : ¬Claims.condTrue s.flags cond) :
    jumpIfOp cond w s = s.advance 3 := if_neg (mt (condHolds_iff _ _).mp h)

/-- Settles O46: a conditional jump is split by its condition, the other jumps are read off. -/
theorem jumps : Obligations.Jumps := by
  unfold Obligations.Jumps
  intro cond w s
  rw [Claims.byte_mod_eq_loByte, Claims.byte_div_eq_hiByte, exec_jumpIfInstr]
  refine ⟨rfl, exec_eq_effect (.jmp w) s, rfl, exec_eq_effect (.jmpCB w) s, Claims.encode_jumpIfInstr cond w,
    fun taken => ?_, fun notTaken => ?_, rfl, ⟨_, exec_eq_effect .pchl s, rfl, mkWord_toNat s.regs.h s.regs.l⟩⟩
  · rw [jumpIfOp_taken w taken]
    rfl
  · rw [jumpIfOp_not_taken w notTaken]
    rfl

/-! ## The packed flag byte (R90, R91) -/

/-- A flag as bit `k` of a byte is bit `k` and no other. -/
@[simp] theorem getElem_bitAt (b : Bool) (k : Nat) {i : Nat} (h : i < 8) : (bitAt b k)[i] = (decide (k = i) && b) := by
  rw [bitAt, ← BitVec.getLsbD_eq_getElem, BitVec.getLsbD_ofNat]
  cases b <;> simp [h, Nat.testBit_two_pow]

theorem unpackFlags_packFlags (f : Flags) : unpackFlags (packFlags f) = f := by simp [unpackFlags, packFlags]

/-- Packing keeps the five flag bits, sets bit 1 and clears bits 3 and 5. -/
theorem packFlags_unpackFlags (b : Byte) : packFlags (unpackFlags b) = (b &&& 0xD5) ||| 0x02 := by
  ext i hi
  simp only [packFlags, unpackFlags, BitVec.getElem_or, BitVec.getElem_and, getElem_bitAt]
  interval_cases i <;> simp

/-- The packed flag byte as a sum of bit weights. -/
theorem packFlags_eq_byte (f : Flags) :
    packFlags f = Claims.byte ((if f.cy then 1 else 0) + 2 + (if f.p then 4 else 0) + (if f.ac then 16 else 0) +
      (if f.z then 64 else 0) + (if f.s then 128 else 0)) := by
  obtain ⟨z, s, p, cy, ac⟩ := f
  revert z s p cy ac
  decide

/-! ## `PUSH` and `POP` -/

/-- A push stores the word's two bytes below the old `sp` (R13). -/
theorem storesWord_push16 (s : State) (v : Word) : Claims.storesWord s (push16 v s) (s.sp - 2) (hiByte v) (loByte v) :=
  push16_readByte s v

/-- `PUSH` stores the two bytes of its word, moves `sp` and `pc`, and changes nothing else (R200, R201). -/
theorem pushOp_stores {p : StackPair} {s : State} {high low : Byte} (h : s.readStackPair p = mkWord high low) :
    pushOp p s = { s with mem := (pushOp p s).mem, sp := s.sp - 2, pc := s.pc + 1 } ∧
      Claims.storesWord s (pushOp p s) (s.sp - 2) high low := by
  refine ⟨rfl, ?_⟩
  have hstores : Claims.storesWord s (pushOp p s) (s.sp - 2) _ _ := storesWord_push16 s (s.readStackPair p)
  rwa [h, hiByte_mkWord, loByte_mkWord] at hstores

/-- Settles O51: each pair is the word of its two registers, `PSW` that of `A` and the packed flags. -/
theorem pushes : Obligations.Pushes := by
  unfold Obligations.Pushes
  intro s pushed bit
  refine ⟨rfl, ⟨_, exec_eq_effect .pushB s, pushOp_stores rfl⟩, ⟨_, exec_eq_effect .pushD s, pushOp_stores rfl⟩,
    ⟨_, exec_eq_effect .pushH s, pushOp_stores rfl⟩, ⟨_, exec_eq_effect .pushPsw s, pushOp_stores ?_⟩⟩
  exact congrArg (mkWord s.regs.a) (packFlags_eq_byte s.flags)

/-- What `PUSH` pushed is on top of the stack, wherever the stack lies. -/
theorem topWord_pushOp (p : StackPair) (s : State) : topWord (pushOp p s) = s.readStackPair p :=
  topWord_push16 s (s.readStackPair p)

/-- `POP PSW` takes `A` from the high byte of the popped word and the flags from its low byte (R203). -/
theorem popOp_psw {s : State} {high low : Byte} (h : topWord s = mkWord high low) :
    popOp .psw s = { s with regs := { s.regs with a := high }, sp := s.sp + 2, pc := s.pc + 1, flags := unpackFlags low } := by
  rw [popOp, State.writeStackPair, h, hiByte_mkWord, loByte_mkWord]
  rfl

/-- `POP PSW` after `PUSH PSW` moves `pc` only, but for the bytes the push left below the stack. -/
theorem popOp_pushOp_psw (s : State) :
    popOp .psw (pushOp .psw s) = { s with mem := (pushOp .psw s).mem, pc := s.pc + 1 + 1 } := by
  have hsp : (pushOp .psw s).sp + 2 = s.sp := sub_two_add_two s.sp
  rw [popOp_psw (topWord_pushOp .psw s), unpackFlags_packFlags, hsp]
  rfl

/-- Settles O53: the word popped is that of the two bytes at `sp`, or the one just pushed. -/
theorem popPswAndRoundTrip : Obligations.PopPswAndRoundTrip := by
  unfold Obligations.PopPswAndRoundTrip
  refine ⟨fun s => ⟨rfl, ?_⟩, fun s t h => ?_, unpackFlags_packFlags, packFlags_unpackFlags⟩
  · exact congrArg Host.Outcome.next (popOp_psw rfl)
  · cases h
    exact ⟨_, congrArg Host.Outcome.next (popOp_pushOp_psw s), rfl, rfl, rfl⟩

end Sys2Proof.Machine
end

section
/-! PROOFS. The statements about data transfer: moves between registers and memory, immediate loads, loads and stores by address,
and the exchanges of whole pairs. -/

namespace Sys2Proof

/-! ## What the instruction patterns decode to and execute -/

/-- The opcode byte of a pair and two operand bytes, low byte first, are `LXI` of that pair (R63). -/
theorem decode_lxi (p : Pair) (low high : Byte) :
    decode [Claims.byte (0b00000001 + 16 * Claims.pairCode p), low, high] = .ok (lxiInstr p (mkWord high low), []) := by
  have h := decode_encode (lxiInstr p (mkWord high low)) []
  rwa [List.append_nil, Claims.encode_lxiInstr, loByte_mkWord, hiByte_mkWord] at h

end Sys2Proof

namespace Sys2Proof.Machine

/-- Every `MOV` writes its source's value to its destination; the slot of `MOV M,M` is `HLT`. -/
theorem exec_movInstr {dst src : Operand} (h : ¬(dst = .m ∧ src = .m)) (s : State) :
    exec (movInstr dst src) s = .next (movOp dst src s) := by
  cases dst with
  | m => cases src with
    | m => exact absurd ⟨rfl, rfl⟩ h
    | reg r => cases r <;> rfl
  | reg q => cases src with
    | m => cases q <;> rfl
    | reg r => cases q <;> cases r <;> rfl

theorem exec_mviInstr (dst : Operand) (v : Byte) (s : State) : exec (mviInstr dst v) s = .next (mviOp dst v s) := by
  cases dst with
  | m => rfl
  | reg r => cases r <;> rfl

theorem exec_lxiInstr (p : Pair) (v : Word) (s : State) : exec (lxiInstr p v) s = .next (lxiOp p v s) := by
  cases p <;> rfl

/-! ## A pair written with a word of two bytes (R12) -/

@[simp] theorem Regs.setBC_mkWord (g : Regs) (high low : Byte) : g.setBC (mkWord high low) = { g with b := high, c := low } := by
  rw [Regs.setBC, hiByte_mkWord, loByte_mkWord]

@[simp] theorem Regs.setDE_mkWord (g : Regs) (high low : Byte) : g.setDE (mkWord high low) = { g with d := high, e := low } := by
  rw [Regs.setDE, hiByte_mkWord, loByte_mkWord]

@[simp] theorem Regs.setHL_mkWord (g : Regs) (high low : Byte) : g.setHL (mkWord high low) = { g with h := high, l := low } := by
  rw [Regs.setHL, hiByte_mkWord, loByte_mkWord]

/-- `LHLD` puts the byte at the address in `L` and the next byte in `H` (R108). -/
theorem lhldOp_eq (w : Word) (s : State) :
    lhldOp w s = { s with regs := { s.regs with l := s.readByte w, h := s.readByte (w + 1) }, pc := s.pc + 3 } := by
  rw [lhldOp, State.readWord, Regs.setHL_mkWord]
  rfl

/-- `XCHG` exchanges `H` with `D` and `L` with `E` (R112). -/
theorem xchgOp_eq (s : State) :
    xchgOp s =
      { s with regs := { s.regs with h := s.regs.d, l := s.regs.e, d := s.regs.h, e := s.regs.l }, pc := s.pc + 1 } := by
  rw [xchgOp, Regs.de, Regs.hl, Regs.setHL_mkWord, Regs.setDE_mkWord]
  rfl

/-! ## Stores that end an instruction -/

/-- An instruction of `n` bytes that ends by storing a byte changes memory at that address, and `pc`. -/
theorem advance_writeByte_stores (s : State) (addr : Word) (v : Byte) (n : Nat) :
    (s.writeByte addr v).advance n =
        { s with mem := ((s.writeByte addr v).advance n).mem, pc := s.pc + BitVec.ofNat 16 n } ∧
      Claims.storesByte s ((s.writeByte addr v).advance n) addr v :=
  ⟨rfl, fun x => State.readByte_writeByte s addr x v⟩

theorem storesWord_writeWord_mkWord (s : State) (addr : Word) (high low : Byte) :
    Claims.storesWord s (s.writeWord addr (mkWord high low)) addr high low := by
  have h := storesWord_writeWord s addr (mkWord high low)
  rwa [← hiByte_eq_ofNat, ← loByte_eq_ofNat, hiByte_mkWord, loByte_mkWord] at h

/-! ## The obligations -/

/-- Settles O28: the destination is a register, so the pattern is not the slot of `HLT`. -/
theorem moveToRegister : Obligations.MoveToRegister := by
  unfold Obligations.MoveToRegister
  intro q src s
  have notHlt : ¬(Operand.reg q = .m ∧ src = .m) := by simp
  exact ⟨Claims.encode_movInstr (.reg q) src, exec_movInstr notHlt s⟩

/-- Settles O29: both instructions end with a byte stored at `HL`. -/
theorem moveToMemory : Obligations.MoveToMemory := by
  unfold Obligations.MoveToMemory
  intro r v s
  have notHlt : ¬(Operand.m = .m ∧ Operand.reg r = .m) := by simp
  exact
    ⟨Claims.encode_movInstr .m (.reg r), ⟨_, exec_movInstr notHlt s, advance_writeByte_stores s s.hl (s.regs.get r) 1⟩,
      rfl, ⟨_, exec_eq_effect (.mviM v) s, advance_writeByte_stores s s.hl v 2⟩⟩

/-- Settles O30: `LXI` takes apart the word that the decoder puts together. -/
theorem immediateLoads : Obligations.ImmediateLoads := by
  unfold Obligations.ImmediateLoads
  intro r v low high s
  rw [← Regs.setBC_mkWord, ← Regs.setDE_mkWord, ← Regs.setHL_mkWord]
  exact ⟨Claims.encode_mviInstr (.reg r) v, exec_mviInstr (.reg r) v s, fun p => decode_lxi p low high,
    exec_lxiInstr .b _ s, exec_lxiInstr .d _ s, exec_lxiInstr .h _ s,
    ⟨_, exec_lxiInstr .sp _ s, rfl, mkWord_toNat high low⟩⟩

/-- Settles O31: the loads of `A` are read off, `LHLD` splits the word it reads. -/
theorem loadsFromMemory : Obligations.LoadsFromMemory := by
  unfold Obligations.LoadsFromMemory
  intro w s
  rw [Claims.byte_mod_eq_loByte, Claims.byte_div_eq_hiByte, ← lhldOp_eq]
  exact ⟨rfl, exec_eq_effect (.lda w) s, rfl, exec_eq_effect (.lhld w) s, rfl, exec_eq_effect .ldaxB s,
    rfl, exec_eq_effect .ldaxD s⟩

/-- Settles O32: each instruction ends with a store, of `A` or of the word of `H` and `L`. -/
theorem storesToMemory : Obligations.StoresToMemory := by
  unfold Obligations.StoresToMemory
  intro w s
  rw [Claims.byte_mod_eq_loByte, Claims.byte_div_eq_hiByte]
  exact
    ⟨rfl, ⟨_, exec_eq_effect (.sta w) s, advance_writeByte_stores s w s.regs.a 3⟩,
      rfl, ⟨_, exec_eq_effect (.shld w) s, rfl, storesWord_writeWord_mkWord s w s.regs.h s.regs.l⟩,
      rfl, ⟨_, exec_eq_effect .staxB s, advance_writeByte_stores s s.regs.bc s.regs.a 1⟩,
      rfl, ⟨_, exec_eq_effect .staxD s, advance_writeByte_stores s s.regs.de s.regs.a 1⟩⟩

/-- Settles O33: the word `SPHL` puts in `sp` is that of `H` and `L`. -/
theorem exchangeAndSphl : Obligations.ExchangeAndSphl := by
  unfold Obligations.ExchangeAndSphl
  intro s
  rw [← xchgOp_eq]
  exact ⟨rfl, exec_eq_effect .xchg s, rfl, ⟨_, exec_eq_effect .sphl s, rfl, mkWord_toNat s.regs.h s.regs.l⟩⟩

end Sys2Proof.Machine
end

section
/-! PROOFS. The statements about arithmetic: additions and subtractions with all five flags, increments and decrements of bytes and
pairs, the addition of pairs, and the decimal adjustment in one shot. -/

namespace Sys2Proof.Machine

/-! ## Additions and subtractions -/

/-- The carry the statements count with is the carry flag the model adds. -/
theorem carry_eq_toNat (s : State) : Claims.carry s = s.flags.cy.toNat := by cases h : s.flags.cy <;> simp [Claims.carry, h]

/-- Ending an instruction with `Add8(A, v, cin)` is what R120 says of an addition. -/
theorem added_setResult_add8 (s : State) (v : Byte) (cin : Bool) (n : Nat) :
    Claims.added s (s.setResult (add8 s.regs.a v cin) n) v cin.toNat n :=
  ⟨add8_toNat _ v cin, add8_cy _ v cin, add8_ac _ v cin, zspOf_setZSP _ _, rfl⟩

/-- Ending an instruction with `Sub8(A, v, bin)` is what R121 says of a subtraction. -/
theorem subtracted_setResult_sub8 (s : State) (v : Byte) (bin : Bool) (n : Nat) :
    Claims.subtracted s (s.setResult (sub8 s.regs.a v bin) n) v bin.toNat n :=
  ⟨⟨sub8_toNat _ v bin, sub8_cy _ v bin, sub8_ac _ v bin, zspOf_setZSP _ _⟩, rfl⟩

/-- Settles O34: each instruction ends with `Add8`, with no carry in or with the carry flag. -/
theorem additions : Obligations.Additions := by
  unfold Obligations.Additions
  intro src v s
  rw [carry_eq_toNat]
  exact
    ⟨Claims.encode_aluInstr .add src, ⟨_, exec_aluInstr .add src s, added_setResult_add8 s _ false 1⟩,
      rfl, ⟨_, exec_eq_effect (.adi v) s, added_setResult_add8 s v false 2⟩,
      Claims.encode_aluInstr .adc src, ⟨_, exec_aluInstr .adc src s, added_setResult_add8 s _ s.flags.cy 1⟩,
      rfl, ⟨_, exec_eq_effect (.aci v) s, added_setResult_add8 s v s.flags.cy 2⟩⟩

/-- Settles O35: each instruction ends with `Sub8`, with no borrow in or with the carry flag. -/
theorem subtractions : Obligations.Subtractions := by
  unfold Obligations.Subtractions
  intro src v s
  rw [carry_eq_toNat]
  exact
    ⟨Claims.encode_aluInstr .sub src, ⟨_, exec_aluInstr .sub src s, subtracted_setResult_sub8 s _ false 1⟩,
      rfl, ⟨_, exec_eq_effect (.sui v) s, subtracted_setResult_sub8 s v false 2⟩,
      Claims.encode_aluInstr .sbb src, ⟨_, exec_aluInstr .sbb src s, subtracted_setResult_sub8 s _ s.flags.cy 1⟩,
      rfl, ⟨_, exec_eq_effect (.sbi v) s, subtracted_setResult_sub8 s v s.flags.cy 2⟩⟩

/-! ## Increments and decrements of a byte -/

theorem increment_ac (v : Byte) (f : Flags) : (increment v f).2.ac = true ↔ v.toNat % 16 = 0xF := decide_eq_true_iff

theorem decrement_ac (v : Byte) (f : Flags) : (decrement v f).2.ac = true ↔ v.toNat % 16 = 0x0 := decide_eq_true_iff

theorem exec_inrInstr (o : Operand) (s : State) : exec (inrInstr o) s = .next (inrOp o s) := by
  cases o with
  | m => rfl
  | reg r => cases r <;> rfl

theorem exec_dcrInstr (o : Operand) (s : State) : exec (dcrInstr o) s = .next (dcrOp o s) := by
  cases o with
  | m => rfl
  | reg r => cases r <;> rfl

/-- An instruction of one byte that ends by writing an operand and the flags has the new value in the operand, the byte at `HL` too:
the store moves no register. -/
theorem readOperand_advance_writeOperand (s : State) (o : Operand) (v : Byte) (f : Flags) :
    (((s.writeOperand o v).setFlags f).advance 1).readOperand o = v := by
  cases o with
  | m => exact State.readOperand_writeOperand_m s v
  | reg r => exact State.readOperand_writeOperand_reg s r v

theorem readOperand_inrOp (o : Operand) (s : State) :
    (inrOp o s).readOperand o = (increment (s.readOperand o) s.flags).1 := readOperand_advance_writeOperand s o _ _

theorem readOperand_dcrOp (o : Operand) (s : State) :
    (dcrOp o s).readOperand o = (decrement (s.readOperand o) s.flags).1 := readOperand_advance_writeOperand s o _ _

/-- Settles O36: the register read after the instruction is the incremented or decremented one. -/
theorem incrementDecrementRegister : Obligations.IncrementDecrementRegister := by
  unfold Obligations.IncrementDecrementRegister
  intro r s
  have hinr : (inrOp (.reg r) s).regs.get r = (increment (s.regs.get r) s.flags).1 := readOperand_inrOp (.reg r) s
  have hdcr : (dcrOp (.reg r) s).regs.get r = (decrement (s.regs.get r) s.flags).1 := readOperand_dcrOp (.reg r) s
  refine ⟨Claims.encode_inrInstr (.reg r), ⟨_, exec_inrInstr (.reg r) s, ?_⟩,
    Claims.encode_dcrInstr (.reg r), ⟨_, exec_dcrInstr (.reg r) s, ?_⟩⟩
  · rw [hinr]
    exact ⟨increment_toNat _ _, zspOf_setZSP _ _, rfl, increment_ac _ _, rfl⟩
  · rw [hdcr]
    exact ⟨decrement_toNat _ _, zspOf_setZSP _ _, rfl, decrement_ac _ _, rfl⟩

/-- Settles O37: the byte read at `HL` after the instruction is the incremented or decremented one, and the only one stored. -/
theorem incrementDecrementMemory : Obligations.IncrementDecrementMemory := by
  unfold Obligations.IncrementDecrementMemory
  intro s
  have hinr : (inrOp .m s).readByte s.hl = (increment (s.readByte s.hl) s.flags).1 := readOperand_inrOp .m s
  have hdcr : (dcrOp .m s).readByte s.hl = (decrement (s.readByte s.hl) s.flags).1 := readOperand_dcrOp .m s
  refine ⟨rfl, ⟨_, exec_inrInstr .m s, ?_⟩, rfl, ⟨_, exec_dcrInstr .m s, ?_⟩⟩
  · rw [hinr]
    exact ⟨increment_toNat _ _, fun x => State.readByte_writeByte s s.hl x _, zspOf_setZSP _ _, rfl, increment_ac _ _, rfl⟩
  · rw [hdcr]
    exact ⟨decrement_toNat _ _, fun x => State.readByte_writeByte s s.hl x _, zspOf_setZSP _ _, rfl, decrement_ac _ _, rfl⟩

/-! ## Register pairs -/

theorem exec_inxInstr (p : Pair) (s : State) : exec (inxInstr p) s = .next (inxOp p s) := by cases p <;> rfl

theorem exec_dcxInstr (p : Pair) (s : State) : exec (dcxInstr p) s = .next (dcxOp p s) := by cases p <;> rfl

theorem exec_dadInstr (p : Pair) (s : State) : exec (dadInstr p) s = .next (dadOp p s) := by cases p <;> rfl

@[simp] theorem State.readPair_advance (s : State) (p : Pair) (n : Nat) : (s.advance n).readPair p = s.readPair p := by
  cases p <;> rfl

@[simp] theorem State.writePair_pc (s : State) (p : Pair) (v : Word) : (s.writePair p v).pc = s.pc := by cases p <;> rfl

/-- A write to a pair other than `sp` changes registers only (R12). -/
theorem State.writePair_eq_with_regs {p : Pair} (h : p ≠ .sp) (s : State) (v : Word) :
    s.writePair p v = { s with regs := (s.writePair p v).regs } := by
  cases p with
  | sp => exact absurd rfl h
  | b | d | h => rfl

/-- An instruction of one byte that ends by writing a pair has the pair's new value in it, and changes `pc` besides. -/
theorem advance_writePair (s : State) (p : Pair) (v : Word) :
    ((s.writePair p v).advance 1).readPair p = v ∧
      (s.writePair p v).advance 1 = { s.writePair p v with pc := s.pc + 1 } := by
  refine ⟨?_, ?_⟩
  · rw [State.readPair_advance, State.readPair_writePair]
  · rw [← State.writePair_pc s p v]
    rfl

/-- Settles O38: both instructions end by writing the pair, modulo 2^16. -/
theorem pairIncrementDecrement : Obligations.PairIncrementDecrement := by
  unfold Obligations.PairIncrementDecrement
  intro p s
  obtain ⟨hinx, hinxFrame⟩ := advance_writePair s p (s.readPair p + 1)
  obtain ⟨hdcx, hdcxFrame⟩ := advance_writePair s p (s.readPair p - 1)
  refine ⟨Claims.encode_inxInstr p, Claims.encode_dcxInstr p, ⟨_, exec_inxInstr p s, ?_⟩, ⟨_, exec_dcxInstr p s, ?_⟩,
    fun _ => rfl, fun hp => State.writePair_eq_with_regs hp s⟩
  · rw [inxOp, hinx]
    exact ⟨BitVec.toNat_add _ _, hinxFrame⟩
  · rw [dcxOp, hdcx]
    refine ⟨?_, hdcxFrame⟩
    bv_omega

/-- The word in `HL` after `DAD` is the sum, modulo 2^16 (R140). -/
theorem hl_dadOp (p : Pair) (s : State) : (dadOp p s).hl = BitVec.ofNat 16 (s.hl.toNat + (s.readPair p).toNat) :=
  Regs.hl_setHL s.regs _

theorem dadOp_cy (p : Pair) (s : State) : (dadOp p s).flags.cy = true ↔ 0xFFFF < s.hl.toNat + (s.readPair p).toNat :=
  decide_eq_true_iff

/-- Settles O39: the sum is written to `H` and `L`, its carry to `cy`. -/
theorem pairAddition : Obligations.PairAddition := by
  unfold Obligations.PairAddition
  intro p s
  refine ⟨Claims.encode_dadInstr p, _, exec_dadInstr p s, ?_, dadOp_cy p s, rfl⟩
  rw [hl_dadOp, BitVec.toNat_ofNat]

/-! ## Decimal adjust (R141)

Stage 2 looks at what stage 1 left. Its test on that is the one-shot test on the accumulator before both stages, so each stage adds
its part of the one-shot correction. -/

theorem daaLow_toNat (a : Byte) (cy ac : Bool) :
    (daaLow a cy ac).1.toNat = (a.toNat + if 9 < a.toNat % 16 ∨ ac = true then 0x06 else 0x00) % 256 := by
  unfold daaLow lowNibble
  split
  · rfl
  · exact (Nat.mod_eq_of_lt a.isLt).symm

theorem daaLow_ac (a : Byte) (cy ac : Bool) :
    (daaLow a cy ac).2.2 = true ↔ 0xF < a.toNat % 16 + if 9 < a.toNat % 16 ∨ ac = true then 0x06 else 0x00 := by
  unfold daaLow lowNibble
  split
  · exact decide_eq_true_iff
  · have noCarry : ¬0xF < a.toNat % 16 + 0x00 := by omega
    exact iff_of_false Bool.false_ne_true noCarry

theorem daaHigh_toNat (a : Byte) (cy : Bool) :
    (daaHigh a cy).1.toNat = (a.toNat + if 9 < a.toNat / 16 ∨ cy = true then 0x60 else 0x00) % 256 := by
  unfold daaHigh
  split
  · rfl
  · exact (Nat.mod_eq_of_lt a.isLt).symm

/-- Stage 2 leaves the carry set exactly when it corrects: a high nibble above 9 overflows when 6 is added to it. -/
theorem daaHigh_cy (a : Byte) (cy : Bool) : (daaHigh a cy).2 = true ↔ 9 < a.toNat / 16 ∨ cy = true := by
  unfold daaHigh
  split
  · have overflow : 9 < a.toNat / 16 → 0xFF < a.toNat + 0x60 := by omega
    simp only [Bool.or_eq_true, decide_eq_true_eq]
    tauto
  · tauto

/-- The test of stage 2 on what stage 1 left is whether `A` was above `0x99` or the carry set: adding 6 to a low nibble above 9 takes
`0x9A` to `0xA0`, and with a low nibble of at most 9 a high nibble above 9 is the same as being above `0x99`. -/
theorem daaHigh_test_iff (a : Byte) (cy ac : Bool) :
    (9 < (daaLow a cy ac).1.toNat / 16 ∨ (daaLow a cy ac).2.1 = true) ↔ (0x99 < a.toNat ∨ cy = true) := by
  have ha : a.toNat < 256 := a.isLt
  unfold daaLow lowNibble
  split
  · have corrected : 9 < (a.toNat + 0x06) % 256 / 16 ∨ 0xFF < a.toNat + 0x06 ↔ 0x99 < a.toNat := by omega
    simp only [BitVec.toNat_ofNat, Bool.or_eq_true, decide_eq_true_eq]
    tauto
  · have kept : 9 < a.toNat / 16 ↔ 0x99 < a.toNat := by omega
    exact or_congr_left kept

/-- The two stages add the two parts of the one-shot correction. -/
theorem decimalAdjust_toNat (a : Byte) (f : Flags) :
    (decimalAdjust a f).1.toNat =
      (a.toNat + (if 9 < a.toNat % 16 ∨ f.ac = true then 0x06 else 0x00) +
        (if 0x99 < a.toNat ∨ f.cy = true then 0x60 else 0x00)) % 256 := by
  refine (daaHigh_toNat (daaLow a f.cy f.ac).1 (daaLow a f.cy f.ac).2.1).trans ?_
  rw [if_congr (daaHigh_test_iff a f.cy f.ac) rfl rfl, daaLow_toNat, Nat.mod_add_mod]

theorem decimalAdjust_cy (a : Byte) (f : Flags) : (decimalAdjust a f).2.cy = true ↔ 0x99 < a.toNat ∨ f.cy = true :=
  (daaHigh_cy _ _).trans (daaHigh_test_iff a f.cy f.ac)

theorem decimalAdjust_ac (a : Byte) (f : Flags) :
    (decimalAdjust a f).2.ac = true ↔ 0xF < a.toNat % 16 + if 9 < a.toNat % 16 ∨ f.ac = true then 0x06 else 0x00 :=
  daaLow_ac a f.cy f.ac

end Sys2Proof.Machine

namespace Sys2Proof.Claims

/-- Settles O40: the two stages leave the result and the flags of the one-shot form. -/
theorem decimalAdjust : Obligations.DecimalAdjust := by
  unfold Obligations.DecimalAdjust
  intro s
  exact ⟨rfl, Machine.daaOp s, Machine.exec_eq_effect .daa s,
    ⟨Machine.decimalAdjust_toNat s.regs.a s.flags, Machine.decimalAdjust_cy s.regs.a s.flags,
      Machine.decimalAdjust_ac s.regs.a s.flags⟩,
    Machine.zspOf_setZSP _ _, rfl⟩

end Sys2Proof.Claims
end

section
/-! PROOFS. The statements about comparisons, rotates, and the complement and carry instructions. -/

namespace Sys2Proof.Machine

/-! ## Comparisons -/

/-- The zero flag of the difference `a - v` says whether the two are equal. -/
theorem z_iff_eq_of_differenceFlags {a v r : Byte} {f : Flags} (h : Claims.differenceFlags a v 0 r f) :
    f.z = true ↔ a = v := by
  obtain ⟨hr, -, -, hz, -, -⟩ := h
  rw [hz, ← BitVec.toNat_inj]
  omega

/-- A comparison leaves the flags of the subtraction and keeps `A` (R160), and its zero flag says whether the two are equal. -/
theorem compared_cmpOp (s : State) (v : Byte) (n : Nat) :
    Claims.compared s (cmpOp v n s) v n ∧ ((cmpOp v n s).flags.z = true ↔ s.regs.a = v) := by
  obtain ⟨hflags, -⟩ := subtracted_setResult_sub8 s v false n
  exact ⟨⟨⟨_, hflags⟩, rfl⟩, z_iff_eq_of_differenceFlags hflags⟩

/-- Settles O42: each instruction ends as the subtraction does, but for `A`. -/
theorem comparisons : Obligations.Comparisons := by
  unfold Obligations.Comparisons
  intro src v s
  exact
    ⟨Claims.encode_aluInstr .cmp src, ⟨_, exec_aluInstr .cmp src s, compared_cmpOp s _ 1⟩,
      rfl, ⟨_, exec_eq_effect (.cpi v) s, compared_cmpOp s v 2⟩⟩

/-! ## Rotates as numbers (R163 to R166) -/

theorem getLsbD_toNat_seven (a : Byte) : (a.getLsbD 7).toNat = a.toNat / 128 := by
  refine (Nat.toNat_testBit a.toNat 7).trans (Nat.mod_eq_of_lt ?_)
  omega

/-- Shifting left and letting a bit enter at the right. -/
theorem shiftLeft_or_bitAt_toNat (a : Byte) (b : Bool) :
    ((a <<< 1) ||| bitAt b 0).toNat = a.toNat * 2 % 256 + b.toNat := by
  have even : a.toNat * 2 % 2 ^ 8 = 2 ^ 1 * (a.toNat % 128) := by omega
  rw [BitVec.toNat_or, BitVec.toNat_shiftLeft, Nat.shiftLeft_eq, Nat.pow_one, bitAt_toNat b (by decide), Nat.pow_zero,
    Nat.mul_one, even, ← Nat.two_pow_add_eq_or_of_lt b.toNat_lt]
  omega

/-- Shifting right and letting a bit enter at the left. -/
theorem shiftRight_or_bitAt_toNat (a : Byte) (b : Bool) :
    ((a >>> 1) ||| bitAt b 7).toNat = a.toNat / 2 + b.toNat * 128 := by
  have low : a.toNat / 2 < 2 ^ 7 := by omega
  rw [BitVec.toNat_or, BitVec.toNat_ushiftRight, Nat.shiftRight_eq_div_pow, Nat.pow_one, bitAt_toNat b (by decide),
    Nat.or_comm, Nat.mul_comm, ← Nat.two_pow_add_eq_or_of_lt low, Nat.add_comm, Nat.mul_comm]

/-- A rotate writes its value to `A` and the bit that leaves to the carry, moves `pc`, and changes nothing else. -/
theorem setRotated_writes (s : State) {r : Byte × Bool} {value cy : Nat} (hvalue : r.1.toNat = value) (hcy : r.2.toNat = cy) :
    (s.setRotated r).regs.a.toNat = value ∧ ((s.setRotated r).flags.cy = true ↔ cy = 1) ∧
      s.setRotated r = { s with regs := { s.regs with a := (s.setRotated r).regs.a },
                                flags := { s.flags with cy := (s.setRotated r).flags.cy }, pc := s.pc + 1 } :=
  ⟨hvalue, hcy ▸ Bool.toNat_eq_one.symm, rfl⟩

/-- Settles O43: the bit that leaves is bit 7 or bit 0; the bit that enters is the same one, or the old carry. -/
theorem rotates : Obligations.Rotates := by
  unfold Obligations.Rotates
  intro s
  have hleft : (s.regs.a.getLsbD 7).toNat = s.regs.a.toNat / 128 := getLsbD_toNat_seven s.regs.a
  have hright : (s.regs.a.getLsbD 0).toNat = s.regs.a.toNat % 2 := getLsbD_toNat_zero s.regs.a
  dsimp only
  rw [carry_eq_toNat, ← hleft, ← hright]
  exact
    ⟨rfl, ⟨_, exec_eq_effect .rlc s, setRotated_writes s (shiftLeft_or_bitAt_toNat _ _) rfl⟩,
      ⟨_, exec_eq_effect .rrc s, setRotated_writes s (shiftRight_or_bitAt_toNat _ _) rfl⟩,
      ⟨_, exec_eq_effect .ral s, setRotated_writes s (shiftLeft_or_bitAt_toNat _ _) rfl⟩,
      ⟨_, exec_eq_effect .rar s, setRotated_writes s (shiftRight_or_bitAt_toNat _ _) rfl⟩⟩

/-! ## Rotates as rotations of bit vectors

`RLC` and `RRC` rotate the eight bits of `A`; `RAL` and `RAR` rotate the nine bits of the carry and `A`. Rotating right by one
place is rotating left by all places but one, so one fact serves all four: a rotation done once for each bit restores the vector. -/

theorem bitVec_rotateLeft_rotateLeft {w : Nat} (x : BitVec w) (m n : Nat) :
    (x.rotateLeft m).rotateLeft n = x.rotateLeft (m + n) := by
  refine BitVec.eq_of_getMsbD_eq fun i hi => ?_
  have hmod : (n + i) % w < w := Nat.mod_lt _ (by omega)
  simp only [BitVec.getMsbD_rotateLeft, hi, hmod, decide_true, Bool.true_and, Nat.add_mod_mod, Nat.add_assoc]

theorem bitVec_rotateLeft_zero {w : Nat} (x : BitVec w) : x.rotateLeft 0 = x := by
  simp [BitVec.rotateLeft_def, BitVec.ushiftRight_eq_zero]

theorem iterate_bitVec_rotateLeft {w : Nat} (x : BitVec w) (m n : Nat) :
    (BitVec.rotateLeft · m)^[n] x = x.rotateLeft (m * n) := by
  induction n with
  | zero => exact (bitVec_rotateLeft_zero x).symm
  | succ n ih => rw [Function.iterate_succ_apply', ih, bitVec_rotateLeft_rotateLeft, Nat.mul_succ]

/-- What moves bits of the state round by `m` places restores them when done once for each of the bits. -/
theorem iterate_restores_bits {w m : Nat} {bits : State → BitVec w} {f : State → State}
    (h : Function.Semiconj bits f (BitVec.rotateLeft · m)) (s : State) : bits (f^[w] s) = bits s := by
  rw [h.iterate_right w s, iterate_bitVec_rotateLeft, ← BitVec.rotateLeft_mod_eq_rotateLeft, Nat.mul_mod_left,
    bitVec_rotateLeft_zero]

/-- `RLC` rotates `A` left by one place (R163). -/
theorem a_rlcOp (s : State) : (rlcOp s).regs.a = s.regs.a.rotateLeft 1 := by
  show (rotateLeft s.regs.a).1 = _
  ext i hi
  interval_cases i <;> simp [rotateLeft, BitVec.getElem_rotateLeft]

/-- `RRC` rotates `A` left by seven of its eight places (R164). -/
theorem a_rrcOp (s : State) : (rrcOp s).regs.a = s.regs.a.rotateLeft 7 := by
  show (rotateRight s.regs.a).1 = _
  ext i hi
  interval_cases i <;> simp [rotateRight, BitVec.getElem_rotateLeft]

/-- The carry above the accumulator: the nine bits that `RAL` and `RAR` rotate. -/
def carryAndA (s : State) : BitVec 9 := BitVec.cons s.flags.cy s.regs.a

theorem carryAndA_inj {s t : State} (h : carryAndA s = carryAndA t) : s.regs.a = t.regs.a ∧ s.flags.cy = t.flags.cy := by
  have ha := congrArg (BitVec.setWidth 8) h
  have hcy := congrArg BitVec.msb h
  rw [carryAndA, carryAndA, BitVec.setWidth_cons, BitVec.setWidth_cons] at ha
  rw [carryAndA, carryAndA, BitVec.msb_cons, BitVec.msb_cons] at hcy
  exact ⟨ha, hcy⟩

/-- `RAL` rotates the carry and `A` left by one place (R165). -/
theorem carryAndA_ralOp (s : State) : carryAndA (ralOp s) = (carryAndA s).rotateLeft 1 := by
  show BitVec.cons (s.regs.a.getLsbD 7) (rotateLeftThroughCarry s.regs.a s.flags.cy).1 = _
  ext i hi
  interval_cases i <;> simp [carryAndA, rotateLeftThroughCarry, BitVec.getElem_rotateLeft, BitVec.getElem_cons]

/-- `RAR` rotates the carry and `A` left by eight of their nine places (R166). -/
theorem carryAndA_rarOp (s : State) : carryAndA (rarOp s) = (carryAndA s).rotateLeft 8 := by
  show BitVec.cons (s.regs.a.getLsbD 0) (rotateRightThroughCarry s.regs.a s.flags.cy).1 = _
  ext i hi
  interval_cases i <;> simp [carryAndA, rotateRightThroughCarry, BitVec.getElem_rotateLeft, BitVec.getElem_cons]

/-! ## Rotates in a row -/

/-- An instruction executed `n` times in a row is its effect, iterated. -/
theorem repeated_eq_iterate (i : Instr) (n : Nat) (s : State) :
    Claims.repeated i n s = .next ((Form.of i).effect^[n] s) := by
  induction n generalizing s with
  | zero => rfl
  | succ n ih =>
    rw [Claims.repeated, exec_eq_effect, Function.iterate_succ_apply]
    exact ih _

/-- Every execution of `f` ends as a rotate does. -/
def IsRotate (f : State → State) : Prop := ∀ s, ∃ r, f s = s.setRotated r

/-- Rotates in a row write the accumulator and the carry, and no other register or flag. -/
theorem IsRotate.iterate_frame {f : State → State} (hf : IsRotate f) (n : Nat) (s : State) :
    (f^[n] s).regs = { s.regs with a := (f^[n] s).regs.a } ∧ (f^[n] s).flags = { s.flags with cy := (f^[n] s).flags.cy } := by
  induction n with
  | zero => exact ⟨rfl, rfl⟩
  | succ n ih =>
    obtain ⟨hregs, hflags⟩ := ih
    obtain ⟨r, hr⟩ := hf (f^[n] s)
    rw [Function.iterate_succ_apply', hr]
    exact ⟨congrArg (fun g : Regs => { g with a := r.1 }) hregs, congrArg (fun g : Flags => { g with cy := r.2 }) hflags⟩

/-- A rotate of `A` alone, executed eight times, leaves every register as it was. -/
theorem IsRotate.iterate_eight {f : State → State} {m : Nat} (hf : IsRotate f)
    (ha : Function.Semiconj (fun u : State => u.regs.a) f (BitVec.rotateLeft · m)) (s : State) : (f^[8] s).regs = s.regs := by
  have hrestored : (f^[8] s).regs.a = s.regs.a := iterate_restores_bits ha s
  rw [(hf.iterate_frame 8 s).1, hrestored]

/-- A rotate of `A` and the carry, executed nine times, leaves every register and flag as it was. -/
theorem IsRotate.iterate_nine {f : State → State} {m : Nat} (hf : IsRotate f)
    (hbits : Function.Semiconj carryAndA f (BitVec.rotateLeft · m)) (s : State) :
    (f^[9] s).regs = s.regs ∧ (f^[9] s).flags = s.flags := by
  obtain ⟨ha, hcy⟩ := carryAndA_inj (iterate_restores_bits hbits s)
  obtain ⟨hregs, hflags⟩ := hf.iterate_frame 9 s
  rw [hregs, hflags, ha, hcy]
  exact ⟨rfl, rfl⟩

/-- Settles O44: eight rotations of eight bits, and nine of nine bits, restore them. -/
theorem rotatesComeFullCircle : Obligations.RotatesComeFullCircle := by
  unfold Obligations.RotatesComeFullCircle
  intro s
  refine ⟨fun i hi => ⟨_, repeated_eq_iterate i 8 s, ?_⟩, fun i hi => ⟨_, repeated_eq_iterate i 9 s, ?_⟩⟩
  · rcases List.mem_pair.mp hi with rfl | rfl
    · exact IsRotate.iterate_eight (fun _ => ⟨_, rfl⟩) a_rlcOp s
    · exact IsRotate.iterate_eight (fun _ => ⟨_, rfl⟩) a_rrcOp s
  · rcases List.mem_pair.mp hi with rfl | rfl
    · exact IsRotate.iterate_nine (fun _ => ⟨_, rfl⟩) carryAndA_ralOp s
    · exact IsRotate.iterate_nine (fun _ => ⟨_, rfl⟩) carryAndA_rarOp s

/-! ## Complement and carry -/

/-- Settles O45: complementing the bits of `A` is subtracting it from 255; the rest is read off. -/
theorem complementAndCarry : Obligations.ComplementAndCarry := by
  unfold Obligations.ComplementAndCarry
  intro s
  exact ⟨rfl, ⟨_, exec_eq_effect .cma s, BitVec.toNat_not, rfl⟩, exec_eq_effect .cmc s, exec_eq_effect .stc s⟩

end Sys2Proof.Machine
end

section
/-! PROOFS. The statements about control transfer through the stack: calls, returns and restarts, the round trip of a call and a
return, and the return from an interrupt. -/

namespace Sys2Proof.Machine

/-! ## The instruction patterns by form -/

theorem Form.of_callIfInstr (cond : Cond) (w : Word) : Form.of (callIfInstr cond w) = .callIf cond w := by cases cond <;> rfl

theorem Form.of_returnIfInstr (cond : Cond) : Form.of (returnIfInstr cond) = .returnIf cond := by cases cond <;> rfl

theorem Form.of_rstInstr {n : Nat} (h : n < 8) : Form.of (rstInstr n) = .rst n := by interval_cases n <;> rfl

/-- The pattern is a restart at a number above 7 too: `rstInstr` gives `RST 7` there. -/
theorem Form.exists_of_rstInstr (n : Nat) : ∃ k, Form.of (rstInstr n) = .rst k := by
  unfold rstInstr
  split <;> exact ⟨_, rfl⟩

/-- `CALL` and its alias bytes are of one form (R182, R190). -/
theorem Form.of_mem_calls {i : Instr} {w : Word} (h : i ∈ [Instr.call w, .callDD w, .callED w, .callFD w]) :
    Form.of i = .call w := by
  fin_cases h <;> rfl

theorem exec_of_form {i : Instr} {f : Form} (h : Form.of i = f) (s : State) : exec i s = .next (f.effect s) :=
  h ▸ exec_eq_effect i s

/-! ## Calls and restarts -/

/-- A call stores the return address below the old `sp`, moves `sp` and `pc`, and changes nothing else (R13, R182). -/
theorem called_callTo (s : State) (target ret : Word) : Claims.called s (callTo target ret s) target ret := by
  refine ⟨rfl, ?_⟩
  rw [← hiByte_eq_ofNat, ← loByte_eq_ofNat]
  exact storesWord_push16 s ret

theorem callIfOp_taken {cond : Cond} {s : State} (w : Word) (h : Claims.condTrue s.flags cond) :
    callIfOp cond w s = callOp w s := if_pos ((condHolds_iff _ _).mpr h)

theorem callIfOp_not_taken {cond : Cond} {s : State} (w : Word) (h : ¬Claims.condTrue s.flags cond) :
    callIfOp cond w s = s.advance 3 := if_neg (mt (condHolds_iff _ _).mp h)

@[simp] theorem topWord_callTo (s : State) (target ret : Word) : topWord (callTo target ret s) = ret := topWord_push16 s ret

/-- Every call, taken conditional call and restart calls some target, with the address after itself as the return address. -/
theorem exists_exec_eq_callTo {s : State} {i : Instr} {w : Word} {n : Nat} {cond : Cond}
    (h : i ∈ [Instr.call w, .callDD w, .callED w, .callFD w, rstInstr n] ∨ i = callIfInstr cond w ∧ Claims.condTrue s.flags cond) :
    ∃ target, exec i s = .next (callTo target (s.pc + BitVec.ofNat 16 i.length) s) := by
  rw [exec_eq_effect, ← Form.length_of]
  rcases h with hi | ⟨rfl, taken⟩
  · rcases List.mem_append.mp (show i ∈ [Instr.call w, .callDD w, .callED w, .callFD w] ++ [rstInstr n] from hi) with
      hcall | hrst
    · rw [Form.of_mem_calls hcall]
      exact ⟨w, rfl⟩
    · obtain ⟨k, hk⟩ := Form.exists_of_rstInstr n
      rw [List.mem_singleton.mp hrst, hk]
      exact ⟨_, rfl⟩
  · rw [Form.of_callIfInstr, Form.effect, callIfOp_taken w taken]
    exact ⟨w, rfl⟩

/-! ## Returns -/

theorem returnTo_eq (s : State) : returnTo s = { s with sp := s.sp + 2, pc := topWord s } := rfl

/-- A return pops a word into `pc` and changes nothing but `pc` and `sp` (R13, R184). -/
theorem returned_returnTo (s : State) : Claims.returned s (returnTo s) := ⟨mkWord_toNat _ _, rfl⟩

theorem returnIfOp_taken {cond : Cond} {s : State} (h : Claims.condTrue s.flags cond) :
    returnIfOp cond s = returnTo s := if_pos ((condHolds_iff _ _).mpr h)

theorem returnIfOp_not_taken {cond : Cond} {s : State} (h : ¬Claims.condTrue s.flags cond) :
    returnIfOp cond s = s.advance 1 := if_neg (mt (condHolds_iff _ _).mp h)

/-- `RET` and its alias byte execute alike (R184, R189). -/
theorem exec_of_mem_returns {i : Instr} (h : i ∈ [Instr.ret, .retD9]) (s : State) : exec i s = .next (returnTo s) := by
  have hform : Form.of i = .ret := by fin_cases h <;> rfl
  exact exec_of_form hform s

/-- Every return and every taken conditional return pops `pc` from the stack. -/
theorem exec_eq_returnTo {s : State} {i : Instr} {cond : Cond}
    (h : i ∈ [Instr.ret, .retD9] ∨ i = returnIfInstr cond ∧ Claims.condTrue s.flags cond) :
    exec i s = .next (returnTo s) := by
  rcases h with hi | ⟨rfl, taken⟩
  · exact exec_of_mem_returns hi s
  · rw [exec_of_form (Form.of_returnIfInstr cond), Form.effect, returnIfOp_taken taken]

/-- A return right after a call goes to the return address, with every field but `pc` and the bytes of the stack as before the
call (R182, R191). -/
theorem returnTo_callTo (s : State) (target ret : Word) :
    returnTo (callTo target ret s) = { s with mem := (callTo target ret s).mem, pc := ret } := by
  rw [returnTo_eq, topWord_callTo, callTo_sp, sub_two_add_two]
  rfl

/-! ## The service of an interrupt -/

/-- A request made while interrupts are enabled is serviced (R257). -/
theorem step_interrupt_enabled {s : State} {later : List HostAction} (he : s.intEnable = true)
    (hs : s.schedule = .interrupt :: later) : step s = .next (takeInterrupt (s.setSchedule later)) := by
  rw [step_eq_perform hs, perform, serviceInterrupt_enabled (s := s.setSchedule later) he]

/-- A return right at the vector of an interrupt goes back to the interrupted place, and to the stack as it was (R260). -/
theorem returnTo_takeInterrupt (s : State) :
    returnTo (takeInterrupt s) = { takeInterrupt s with pc := s.pc, sp := s.sp } := by
  rw [returnTo_eq, topWord_takeInterrupt, takeInterrupt_sp, sub_two_add_two]

/-! ## The obligations -/

/-- Settles O47: every form of `CALL` executes alike, and a conditional call is split by its condition. -/
theorem calls : Obligations.Calls := by
  unfold Obligations.Calls
  intro cond w s
  rw [Claims.byte_mod_eq_loByte, Claims.byte_div_eq_hiByte, exec_of_form (Form.of_callIfInstr cond w), Form.effect]
  refine ⟨rfl, fun i hi => ?_, Claims.encode_callIfInstr cond w, fun taken => ?_, fun notTaken => ?_⟩
  · refine ⟨_, _, exec_of_form (Form.of_mem_calls hi) s, called_callTo s w (s.pc + 3),
      exec_of_mem_returns List.mem_cons_self _, ?_⟩
    rw [Form.effect, callOp, returnTo_callTo]
    exact ⟨rfl, rfl⟩
  · rw [callIfOp_taken w taken]
    exact ⟨_, rfl, called_callTo s w _⟩
  · rw [callIfOp_not_taken w notTaken]
    rfl

/-- Settles O48: both forms of `RET` execute alike, and a conditional return is split by its condition. -/
theorem returns : Obligations.Returns := by
  unfold Obligations.Returns
  intro cond s
  rw [exec_of_form (Form.of_returnIfInstr cond), Form.effect]
  refine ⟨rfl, rfl, fun i hi => ⟨_, exec_of_mem_returns hi s, returned_returnTo s⟩, Claims.encode_returnIfInstr cond,
    fun taken => ?_, fun notTaken => ?_⟩
  · rw [returnIfOp_taken taken]
    exact ⟨_, rfl, returned_returnTo s⟩
  · rw [returnIfOp_not_taken notTaken]
    rfl

/-- Settles O49: a restart is a call of one byte to a fixed address. -/
theorem restarts : Obligations.Restarts := by
  unfold Obligations.Restarts
  intro n s hn
  exact ⟨Claims.encode_rstInstr hn, _, exec_of_form (Form.of_rstInstr hn) s, called_callTo s _ _⟩

/-- Settles O50: each first instruction is a call, each second one a return. -/
theorem callReturnRoundTrip : Obligations.CallReturnRoundTrip := by
  unfold Obligations.CallReturnRoundTrip
  intro s t w n cond back i r hi hr h
  obtain ⟨target, hcall⟩ := exists_exec_eq_callTo hi
  rw [hcall] at h
  cases h
  refine ⟨_, exec_eq_returnTo hr, ?_⟩
  rw [returnTo_callTo]
  exact ⟨rfl, rfl, rfl, rfl⟩

/-- Settles O12: the return at the vector pops the word the service pushed. -/
theorem returnResumesTheInterruptedProgram : Obligations.ReturnResumesTheInterruptedProgram := by
  unfold Obligations.ReturnResumesTheInterruptedProgram
  intro s t later he hs h i hi
  rw [step_interrupt_enabled he hs] at h
  cases h
  refine ⟨_, exec_of_mem_returns hi _, ?_⟩
  rw [returnTo_takeInterrupt]
  exact ⟨rfl, rfl, rfl, rfl, rfl, rfl, rfl⟩

end Sys2Proof.Machine
end

section
/-! PROOFS. The statements about the rest of the stack, ports and machine control: pops and the exchange with the stack top, input
and output port by port, `EI`, `DI` and `HLT` with the transition right after them, and `NOP` with its alias bytes. -/

namespace Sys2Proof.Machine

/-! ## Pops and the exchange with the stack top -/

/-- `XTHL` writes the top word to `H` and `L`, memory besides, and keeps `sp` (R204). -/
theorem xthlOp_eq (s : State) :
    xthlOp s = { s with mem := (xthlOp s).mem, pc := s.pc + 1,
                        regs := { s.regs with l := s.readByte s.sp, h := s.readByte (s.sp + 1) } } := by
  rw [← Regs.setHL_mkWord]
  rfl

/-- Settles O52: the word popped is taken apart into the two bytes it was read from. -/
theorem pops : Obligations.Pops := by
  unfold Obligations.Pops
  intro s low high
  have htop : mkWord high low = topWord s := rfl
  rw [← Regs.setBC_mkWord, ← Regs.setDE_mkWord, ← Regs.setHL_mkWord, htop]
  exact ⟨rfl, exec_eq_effect .popB s, exec_eq_effect .popD s, exec_eq_effect .popH s⟩

/-- Settles O54: both words, that of the stack top and that of `H` and `L`, are taken apart into their bytes. -/
theorem exchangeWithTheStackTop : Obligations.ExchangeWithTheStackTop := by
  unfold Obligations.ExchangeWithTheStackTop
  intro s
  exact ⟨rfl, _, exec_eq_effect .xthl s, xthlOp_eq s, storesWord_writeWord_mkWord s s.sp s.regs.h s.regs.l⟩

/-! ## Input and output -/

/-- The window of the shift register as a number: its sixteen bits, less the low `8 - shift_offset`, modulo 2^8 (R233). -/
theorem Bridge.window_toNat (b : Bridge) :
    b.window.toNat = (b.shift1.toNat * 256 + b.shift0.toNat) / 2 ^ (8 - b.shiftOffset.toNat) % 256 := by
  rw [Bridge.window, BitVec.toNat_setWidth, BitVec.toNat_ushiftRight, Bridge.combined, mkWord_toNat,
    Nat.shiftRight_eq_div_pow]

/-- Keeping the low three bits is taking the value modulo 8 (R234). -/
theorem setWidth_three_eq_ofNat (v : Byte) : v.setWidth 3 = BitVec.ofNat 3 (v.toNat % 8) := by
  apply BitVec.eq_of_toNat_eq
  simp

/-- Settles O55: `A` takes what the bridge gives at the port, whichever it is. -/
theorem inputPorts : Obligations.InputPorts := by
  unfold Obligations.InputPorts
  intro port s
  refine ⟨rfl, _, exec_eq_effect (.inPort port) s, rfl, ?_, ?_, ?_⟩ <;> rintro rfl
  · rfl
  · rfl
  · exact Bridge.window_toNat s.bridge

/-- Settles O56: the statement's chain of ports is that of `PortOut`, with the three bits of the offset as a number. -/
theorem outputPorts : Obligations.OutputPorts := by
  unfold Obligations.OutputPorts
  intro port s v b
  rw [← setWidth_three_eq_ofNat]
  exact ⟨rfl, exec_eq_effect (.outPort port) s⟩

/-! ## Machine control -/

theorem vectorOf_eq_ite (n : InterruptNumber) : vectorOf n = if n = .one then 0x0008 else 0x0010 := by cases n <;> rfl

/-- A request made while interrupts are disabled only leaves the schedule (R255). -/
theorem step_interrupt_disabled {s : State} {later : List HostAction} (hd : s.intEnable = false)
    (hs : s.schedule = .interrupt :: later) : step s = .next (s.setSchedule later) := by
  rw [step_eq_perform hs, perform, serviceInterrupt_disabled (s := s.setSchedule later) hd]

/-- The host's step of a halted machine only leaves the schedule (R284). -/
theorem step_step_halted {s : State} {later : List HostAction} (hh : s.halted = true) (hs : s.schedule = .step :: later) :
    step s = .next (s.setSchedule later) := by
  rw [step_eq_perform hs, perform, runInstr_halted (s := s.setSchedule later) hh]

/-- Settles O58: each of the three leaves the schedule alone, so the host's next action meets the field it has just set. -/
theorem enableDisableHalt : Obligations.EnableDisableHalt := by
  unfold Obligations.EnableDisableHalt
  intro s later
  refine ⟨rfl, exec_eq_effect .ei s, exec_eq_effect .di s, exec_eq_effect .hlt s, fun hs => ⟨?_, ?_⟩, fun hs => ?_⟩
  · have hnext : step (eiOp s) = .next (takeInterrupt ((eiOp s).setSchedule later)) := step_interrupt_enabled rfl hs
    exact ⟨_, _, exec_eq_effect .ei s, hnext, vectorOf_eq_ite s.interruptNumber, rfl, rfl⟩
  · exact ⟨_, exec_eq_effect .di s, step_interrupt_disabled rfl hs⟩
  · exact ⟨_, exec_eq_effect .hlt s, step_step_halted rfl hs⟩

theorem Form.of_nopInstr {n : Nat} (h : n < 8) : Form.of (nopInstr n) = .nop := by interval_cases n <;> rfl

/-- Settles O59: the eight bytes are of one form, which moves `pc` and does nothing else. -/
theorem noOperations : Obligations.NoOperations := by
  unfold Obligations.NoOperations
  intro n s hn
  exact ⟨Claims.encode_nopInstr hn, exec_of_form (Form.of_nopInstr hn) s⟩

end Sys2Proof.Machine
end

section
/-! PROOFS. The statement about the shift register as a whole: what `IN 3` reads after two `OUT 4` and an `OUT 2`. -/

namespace Sys2Proof.Machine

/-- Shifting down by `8 - k` is shifting up by `k` and then dropping a byte. -/
theorem div_two_pow_eight_sub (c : Nat) {k : Nat} (hk : k ≤ 8) : c / 2 ^ (8 - k) = c * 2 ^ k / 256 := by
  have hsplit : 2 ^ (8 - k) * 2 ^ k = 256 := Nat.pow_sub_mul_pow 2 hk
  rw [← hsplit, Nat.mul_div_mul_right _ _ (Nat.two_pow_pos k)]

/-- The window of the shift register seen from the top: its sixteen bits shifted up by the offset, less the low byte, modulo 2^8
(R233). -/
theorem Bridge.window_toNat_eq_shift_up (b : Bridge) :
    b.window.toNat = (b.shift1.toNat * 256 + b.shift0.toNat) * 2 ^ b.shiftOffset.toNat / 256 % 256 := by
  have hk : b.shiftOffset.toNat ≤ 8 := b.shiftOffset.isLt.le
  rw [Bridge.window_toNat, div_two_pow_eight_sub _ hk]

/-- `OUT` leaves the bridge as `PortOut` does from the accumulator (R207). -/
theorem bridge_of_exec_outPort {port : Byte} {s t : State} (h : exec (.outPort port) s = .next t) :
    t.bridge = portOut s.bridge port s.regs.a := by
  rw [exec_eq_effect] at h
  cases h
  rfl

/-- `IN` leaves the byte of `PortIn` in the accumulator (R206). -/
theorem a_of_exec_inPort {port : Byte} {s t : State} (h : exec (.inPort port) s = .next t) :
    t.regs.a = portIn s.draws s.bridge port := by
  rw [exec_eq_effect] at h
  cases h
  rfl

/-- The bytes of two `OUT 4` fill the shift register, the later one on top, and `OUT 2` sets the offset (R234, R235). -/
theorem portOut_shift_offset (b : Bridge) (v1 v2 k : Byte) :
    portOut (portOut (portOut b 4 v1) 4 v2) 2 k = { b with shift0 := v1, shift1 := v2, shiftOffset := k.setWidth 3 } := rfl

/-- Settles O57: the bridge before the `IN` is that of the three `OUT`s, since nothing in between touches it. -/
theorem shiftRegisterWindow : Obligations.ShiftRegisterWindow := by
  unfold Obligations.ShiftRegisterWindow
  intro s0 s1 s2 s3 t1 t2 t3 t4 hout1 hs1 hout2 hs2 hout3 hs3 hin
  have hbridge : s3.bridge = portOut (portOut (portOut s0.bridge 4 s0.regs.a) 4 s1.regs.a) 2 s2.regs.a := by
    rw [hs3, bridge_of_exec_outPort hout3, hs2, bridge_of_exec_outPort hout2, hs1, bridge_of_exec_outPort hout1]
  have hread : t4.regs.a = s3.bridge.window := a_of_exec_inPort hin
  rw [hread, Bridge.window_toNat_eq_shift_up, hbridge, portOut_shift_offset, BitVec.toNat_setWidth]

end Sys2Proof.Machine
end

section
/-! PROOFS. The statements about exceptions: no transition faults or is refused, an interrupt request is lost or serviced, and the
two vectors take turns. -/

namespace Sys2Proof.Machine

/-! ## No fault, no refusal -/

/-- An instruction step answers a next state, halted or not (R250, R284). -/
theorem exists_runInstr_eq_next (s : State) : ∃ t, runInstr s = .next t := by
  cases hh : s.halted with
  | true => exact ⟨_, runInstr_halted hh⟩
  | false => exact ⟨_, runInstr_running hh⟩

/-- Every action of the host answers a next state (R250, R286). -/
theorem exists_perform_eq_next (a : HostAction) (s : State) : ∃ t, perform a s = .next t := by
  cases a with
  | step => exact exists_runInstr_eq_next s
  | interrupt | writePort1 | writePort2 | reset => exact ⟨_, rfl⟩

/-- Settles O16: a transition is an instruction step or an action of the host. -/
theorem noStepFaultsOrRefuses : Obligations.NoStepFaultsOrRefuses := by
  unfold Obligations.NoStepFaultsOrRefuses
  intro s
  cases hs : s.schedule with
  | nil => rw [step_eq_runInstr hs]; exact exists_runInstr_eq_next s
  | cons a rest => rw [step_eq_perform hs]; exact exists_perform_eq_next a _

/-! ## The service of an interrupt, whole -/

theorem nextInterruptNumber_eq_ite (n : InterruptNumber) : nextInterruptNumber n = if n = .one then .two else .one := by
  cases n <;> rfl

/-- The two vector numbers take turns (R258). -/
theorem nextInterruptNumber_nextInterruptNumber (n : InterruptNumber) : nextInterruptNumber (nextInterruptNumber n) = n := by
  cases n <;> rfl

/-- The vector after the coming one is the other one. -/
theorem vectorOf_nextInterruptNumber (n : InterruptNumber) :
    vectorOf (nextInterruptNumber n) = if n = .one then 0x0010 else 0x0008 := by
  cases n <;> rfl

/-- What the service of an interrupt writes besides memory, with the two vector numbers told apart (R257, R258). -/
theorem takeInterrupt_eq_with (s : State) :
    takeInterrupt s =
      { s with halted := false, mem := (takeInterrupt s).mem, sp := s.sp - 2,
               pc := if s.interruptNumber = .one then 0x0008 else 0x0010, intEnable := false,
               interruptNumber := if s.interruptNumber = .one then .two else .one } := by
  rw [← vectorOf_eq_ite, ← nextInterruptNumber_eq_ite]
  rfl

/-- The service of an interrupt stores the word `pc` below the old `sp`, and no other byte (R257). -/
theorem storesWord_takeInterrupt (s : State) :
    Claims.storesWord s (takeInterrupt s) (s.sp - 2) (hiByte s.pc) (loByte s.pc) := fun x =>
  (takeInterrupt_readByte s x).trans (storesWord_push16 s s.pc x)

/-- Settles O10, by whether interrupts are enabled. -/
theorem interruptService : Obligations.InterruptService := by
  unfold Obligations.InterruptService
  intro s later hs
  refine ⟨fun hd => step_interrupt_disabled hd hs,
    fun he => ⟨_, step_interrupt_enabled he hs, takeInterrupt_eq_with (s.setSchedule later), ?_⟩⟩
  rw [← hiByte_eq_ofNat, ← loByte_eq_ofNat]
  exact storesWord_takeInterrupt (s.setSchedule later)

/-- Settles O11: the number left by the first service gives the other vector, and toggling it again restores it. -/
theorem vectorsAlternate : Obligations.VectorsAlternate := by
  unfold Obligations.VectorsAlternate
  intro s t later later' he hs h
  rw [step_interrupt_enabled he hs] at h
  cases h
  refine ⟨vectorOf_eq_ite s.interruptNumber, fun u hu heu hsu => ⟨_, step_interrupt_enabled heu hsu, ?_, ?_⟩⟩
  · rw [takeInterrupt_pc, State.setSchedule_interruptNumber, hu]
    exact vectorOf_nextInterruptNumber s.interruptNumber
  · rw [takeInterrupt_interruptNumber, State.setSchedule_interruptNumber, hu]
    exact nextInterruptNumber_nextInterruptNumber s.interruptNumber

end Sys2Proof.Machine
end

section
/-! PROOFS. The statements about what a transition runs: the instruction at `pc`, nothing while halted, and nothing for good while
halted with interrupts disabled. -/

namespace Sys2Proof.Machine

/-! ## One step, running or halted -/

/-- What the three bytes from `pc` on decode to is the instruction fetched (R49). -/
theorem fetchInstr_of_decode {s : State} {i : Instr} {rest : List Byte}
    (h : decode [s.readByte s.pc, s.readByte (s.pc + 1), s.readByte (s.pc + 2)] = .ok (i, rest)) : fetchInstr s = i := by
  rw [decode_three] at h
  cases h
  rfl

/-- While the machine is not halted, an instruction step executes the instruction at `pc` (R283). -/
theorem runInstr_eq_exec {s : State} (h : s.halted = false) : runInstr s = exec (fetchInstr s) s := by
  rw [runInstr_running h, exec_eq_effect]

/-- Settles O8: what decodes is what the step fetches, and neither that nor `halted` depends on the schedule. -/
theorem stepRunsTheDecodedInstruction : Obligations.StepRunsTheDecodedInstruction := by
  unfold Obligations.StepRunsTheDecodedInstruction
  intro s i rest later hrun hdec
  obtain rfl : fetchInstr s = i := fetchInstr_of_decode hdec
  constructor
  · intro hs
    rw [step_eq_runInstr hs, runInstr_eq_exec hrun]
  · intro hs
    rw [step_eq_perform hs]
    exact runInstr_eq_exec (s := s.setSchedule later) hrun

/-- A halted machine with no action of the host left stays as it is (R284). -/
theorem step_halted {s : State} (hh : s.halted = true) (hs : s.schedule = []) : step s = .next s := by
  rw [step_eq_runInstr hs, runInstr_halted hh]

/-- Settles O9, by whether the host's step is on the schedule. -/
theorem haltedStepChangesNothing : Obligations.HaltedStepChangesNothing := by
  unfold Obligations.HaltedStepChangesNothing
  intro s later hh
  exact ⟨step_halted hh, step_step_halted hh⟩

/-! ## Halted for good -/

/-- `t` is `s` less the first `n` actions of its schedule, but for the input latches. -/
def State.idles (n : Nat) (s t : State) : Prop :=
  t = { s with schedule := s.schedule.drop n,
               bridge := { s.bridge with port1 := t.bridge.port1, port2 := t.bridge.port2 } }

theorem State.idles_zero (s : State) : s.idles 0 s := rfl

/-- Idling adds up. -/
theorem State.idles_trans {m n : Nat} {s u t : State} (hsu : s.idles m u) (hut : u.idles n t) : s.idles (m + n) t := by
  unfold State.idles at *
  rw [hut, hsu, ← List.drop_drop]

/-- Idling keeps the two fields by which a machine is halted for good. -/
theorem State.haltedForGood_of_idles {n : Nat} {s t : State} (h : s.idles n t) (hs : s.haltedForGood) :
    t.haltedForGood := by
  rw [h]
  exact hs

/-- The actions left after idling are among those there were. -/
theorem State.mem_schedule_of_idles {n : Nat} {s t : State} (h : s.idles n t) {a : HostAction} (ha : a ∈ t.schedule) :
    a ∈ s.schedule := by
  rw [h] at ha
  exact List.mem_of_mem_drop ha

/-- The invariant's step (R291 (a)): a machine halted for good idles through every transition but a reset. -/
theorem exists_step_idles {s : State} (hs : s.haltedForGood) (hreset : ∀ a ∈ s.schedule, a.isReset = false) :
    ∃ t, step s = .next t ∧ s.idles 1 t := by
  obtain ⟨hhalted, hint⟩ := hs
  cases hsched : s.schedule with
  | nil => exact ⟨s, step_halted hhalted hsched, by rw [State.idles, hsched, List.drop_nil, ← hsched]⟩
  | cons a later =>
    have ha : a.isReset = false := hreset a (by simp [hsched])
    obtain rfl : s.schedule.drop 1 = later := by rw [hsched]; rfl
    cases a with
    | step => exact ⟨_, step_step_halted hhalted hsched, rfl⟩
    | interrupt => exact ⟨_, step_interrupt_disabled hint hsched, rfl⟩
    | writePort1 v => exact ⟨_, step_eq_perform hsched, rfl⟩
    | writePort2 v => exact ⟨_, step_eq_perform hsched, rfl⟩
    | reset l => exact Bool.noConfusion ha

/-- A run whose first transition is known goes on from there. -/
theorem run_succ_of_step {M : Host.Core} {s u : M.State} (h : M.step s = .next u) (n : Nat) :
    M.run (n + 1) s = M.run n u := by
  rw [Host.Core.run, h]

/-- Settles O17, by induction on the number of transitions: each one idles, and so keeps what makes the next one idle. -/
theorem haltedForGoodIsPermanent : Obligations.HaltedForGoodIsPermanent := by
  unfold Obligations.HaltedForGoodIsPermanent
  intro n
  induction n with
  | zero => exact fun s _ _ => ⟨s, rfl, State.idles_zero s⟩
  | succ n ih =>
    intro s hs hreset
    obtain ⟨u, hstep, hsu⟩ := exists_step_idles hs hreset
    obtain ⟨t, hrun, hut⟩ :=
      ih u (State.haltedForGood_of_idles hsu hs) fun a ha => hreset a (State.mem_schedule_of_idles hsu ha)
    refine ⟨t, (run_succ_of_step (M := core) hstep n).trans hrun, ?_⟩
    rw [Nat.add_comm n 1]
    exact State.idles_trans hsu hut

end Sys2Proof.Machine
end
